-- ==== Sys2Proof/Word.lean ====
section
/-!
DEFINITION. The two word types of the block: a buffer or bus byte, and the 32-bit word of the command port and of the
registers (R63, R90).
-/

namespace Sys2Proof

/-- One byte of a buffer or of a bus call (R63). -/
abbrev Byte := BitVec 8

/-- A 32-bit word: a command word (R90), the value of a response (R103), `CYCLE` (R29), `TERRCNT` (R30). -/
abbrev Word := BitVec 32

end Sys2Proof
end

