-- ==== Sys2Proof/Config.lean ====
section
/-!
DEFINITION. The configuration (R6 to R12) with the spec's defaults, the kinds of environment draws (R146, R196) and of
scheduling choices (R3), and the free values that stand for draws under no law.
-/

namespace Sys2Proof

/-- The four gray levels (R108). -/
inductive GrayLevel where
  | black
  | low
  | mid
  | full
deriving DecidableEq, Repr, Inhabited

/-- The outcome of one bus call: all bytes delivered, a transport error, or no return at all (R146). -/
inductive BusAnswer where
  | ok
  | err
  | never
deriving DecidableEq, Repr, Inhabited

/-- The outcome of one `NvRead` (R196): the store's content is delivered, or the read fails. -/
inductive NvReadAnswer where
  | ok
  | fail
deriving DecidableEq, Repr, Inhabited

/-- The outcome of one `NvWrite` (R194, R196). A failed write leaves the store with arbitrary content (U7): the draw
carries it. -/
inductive NvWriteAnswer where
  | ok
  | fail (valid : Bool) (value : Word)
deriving DecidableEq, Repr, Inhabited

/-- Who makes the next step (R3, R72, R250). DESIGN CHOICE, safe: notes/assumptions/2.md, 3.md, 15.md. -/
inductive Pick where
  /-- the host takes one micro-step -/
  | host
  /-- the engine takes one micro-step -/
  | engine
  /-- the engine takes a whole sub-frame step, SHOW, with no host step between (R160) -/
  | subframe
  /-- the block is reset with the strap `PAR_CAP` at this level (R270, R273) -/
  | reset (parCap : Bool)
deriving DecidableEq, Repr, Inhabited

/-- The operand form of the multiplex-ratio command (R111, the spec's open point D26): the byte that names a row count.
Plain data for any such form; the names are the model's, DESIGN CHOICE, safe: notes/assumptions/23.md. -/
inductive MuxOperand where
  /-- the row count less a fixed number; 1 is the default of R111 -/
  | rowsMinus (offset : Nat)
  /-- any other form, as a table: the entry at `rows - 1` -/
  | table (operands : List Byte)
deriving DecidableEq, Repr

/-- The parameters of R6 to R12 and R111. They are constant for one machine: no step writes them.
DESIGN CHOICE, safe: notes/assumptions/1.md. -/
structure Config where
  /-- `W`, display width in pixels (R6) -/
  w : Nat
  /-- `H`, display height in pixels (R6) -/
  h : Nat
  /-- `PARK_ROWS` (R7) -/
  parkRows : Nat
  /-- `PARK_WAIT_ROWS` (R7) -/
  parkWaitRows : Nat
  /-- `MARGIN_ROWS` (R7) -/
  marginRows : Nat
  /-- `EXPOSE_ROWS` (R7, R166): the row content of the shortest exposure; no transition reads it -/
  exposeRows : Nat
  /-- `PLAN_GS`, each entry a 16-bit SHOW word (R8, R110, R167) -/
  planGs : List (BitVec 16)
  /-- `PLAN_PLAIN`, each entry a 16-bit SHOW word (R8, R110, R168) -/
  planPlain : List (BitVec 16)
  /-- `DEFAULT_CYCLE`, in microseconds (R9) -/
  defaultCycle : Nat
  /-- `ROWS_PER_CYCLE` (R9, R166) -/
  rowsPerCycle : Nat
  /-- `COARSE_STEP`, in microseconds (R10) -/
  coarseStep : Nat
  /-- `FINE_STEP`, in microseconds (R10) -/
  fineStep : Nat
  /-- `CYCLE_MIN` (R10) -/
  cycleMin : Nat
  /-- `CYCLE_MAX` (R10) -/
  cycleMax : Nat
  /-- `RESOLVE_LUT`, indexed by `2*bitA + bitB` (R11) -/
  resolveLut : Vector GrayLevel 4
  /-- `PAR_CAP`, the strap as the first reset samples it (R12); a later reset brings its own level -/
  parCap : Bool
  /-- `MUX_CMD` (R12, R111) -/
  muxCmd : Byte
  /-- the operand form of `SetMux` (R111) -/
  muxOperand : MuxOperand
  /-- `STEP_EXTRA_CMD[A]` (R12) -/
  extraA : List Byte
  /-- `STEP_EXTRA_CMD[B]` (R12) -/
  extraB : List Byte
  /-- `STEP_EXTRA_CMD[C]` (R12) -/
  extraC : List Byte
deriving DecidableEq, Repr

/-- The default configuration (R6 to R12, R110, R111). The values that the spec marks as its own decisions or as general
knowledge are listed in notes/assumptions/9.md. -/
def Config.default : Config where
  w := 72
  h := 40
  parkRows := 1
  parkWaitRows := 8
  marginRows := 17
  exposeRows := 48
  planGs := [0x0082#16, 0x4084#16, 0x8084#16]
  planPlain := [0x0081#16]
  defaultCycle := 27400
  rowsPerCycle := 192
  coarseStep := 100
  fineStep := 1
  cycleMin := 1
  cycleMax := 4294967295
  resolveLut := #v[.black, .low, .mid, .full]
  parCap := true
  muxCmd := 0xA8#8
  muxOperand := .rowsMinus 1
  extraA := []
  extraB := []
  extraC := []

/-- The scheduling choice made at draw `n` when no pick is listed: nothing constrains it (R3, R72).
Free value: notes/assumptions/2.md. -/
opaque Config.freePick : Nat → Pick

/-- The outcome of a bus call at draw `n` when no answer is listed: nothing constrains it (R146, "under no law").
Free value: notes/assumptions/5.md. -/
opaque Config.freeBusAnswer : Nat → BusAnswer

/-- The outcome of an `NvRead` at draw `n` when no answer is listed (R196). Free value: notes/assumptions/5.md. -/
opaque Config.freeNvRead : Nat → NvReadAnswer

/-- The outcome of an `NvWrite` at draw `n` when no answer is listed, with the content a failed write leaves
(R194, R196, U7). Free value: notes/assumptions/5.md, 7.md. -/
opaque Config.freeNvWrite : Nat → NvWriteAnswer

end Sys2Proof
end

