-- ==== Sys2Proof/Syntax.lean ====
section
/-!
DEFINITION. The instructions: one constructor per row of spec/opcode_table.json, with the named operands of R91 to R97,
R107, R110.
-/

namespace Sys2Proof

/-- The layers a pixel command can target: `layer` of formats P and F (R93, R94, R107). -/
inductive Layer where
  | a
  | b
deriving DecidableEq, Repr, Inhabited

/-- The three buffers (R107); code 3 is reserved and has no constructor. -/
inductive Buf where
  | a
  | b
  | c
deriving DecidableEq, Repr, Inhabited

/-- The three control and status registers (R38 to R41); numbers 3 to 255 are reserved and have no constructor. -/
inductive Csr where
  | status
  | cycle
  | terrcnt
deriving DecidableEq, Repr, Inhabited

/-- The sixteen host commands (R98), the plan entry SHOW (R110, R160) and the six engine micro-operations (R109, R160). -/
inductive Instr where
  /-- START (R210) -/
  | start
  /-- STOP (R211, R212) -/
  | stop
  /-- GSON (R213) -/
  | gson
  /-- GSOFF (R214) -/
  | gsoff
  /-- RDCSR csr (R215) -/
  | rdcsr (csr : Csr)
  /-- GETCYC (R190) -/
  | getcyc
  /-- ADJC delta, a 16-bit two's complement operand (R92, R191) -/
  | adjc (delta : BitVec 16)
  /-- ADJF delta (R92, R192) -/
  | adjf (delta : BitVec 16)
  /-- COMMIT (R194) -/
  | commit
  /-- RELOAD (R195) -/
  | reload
  /-- SETPX layer, x, y, bit (R93, R120) -/
  | setpx (layer : Layer) (x y : BitVec 8) (bit : Bool)
  /-- FILL layer, bit (R94, R121) -/
  | fill (layer : Layer) (bit : Bool)
  /-- DERIVE (R122) -/
  | derive
  /-- RESOLVE bitA, bitB (R95, R123) -/
  | resolve (bitA bitB : Bool)
  /-- WRBYTE buf, index, value (R96, R124) -/
  | wrbyte (buf : Buf) (index : BitVec 14) (value : Byte)
  /-- RDBYTE buf, index (R96, R125) -/
  | rdbyte (buf : Buf) (index : BitVec 14)
  /-- SHOW src, num/den: one plan entry, one sub-frame step (R110, R160) -/
  | showEntry (src : Buf) (num den : BitVec 7)
  /-- FETCH (R161) -/
  | fetch
  /-- PARK (R141) -/
  | park
  /-- PWAIT (R162) -/
  | pwait
  /-- LOAD: a read micro-step (R142) or the transmit micro-step (R143) -/
  | load
  /-- UNPARK (R144) -/
  | unpark
  /-- XWAIT and step advance (R163) -/
  | xwait
deriving DecidableEq, Repr

end Sys2Proof
end

