-- ==== Sys2Proof/Machine/State.lean ====
section
/-!
DEFINITION. The state of the block (R20 to R37), the observer's lists and the environment's inputs, the reasons a step
can stop, and the state after reset (R270, 10_state.md section 9).
-/

namespace Sys2Proof.Machine

/-- The linear byte space BUF of R60, R61 as a list of cells: addresses strictly rising, no byte listed that equals
what an unlisted address reads as. -/
abbrev Memory := List Host.Cell

/-- What an unlisted address reads as: the reset value of every buffer byte, 0x00 (R31, R32). -/
def Memory.unlisted : Byte := 0x00#8

/-- The canonical form of a memory. -/
abbrev Memory.wf (m : Memory) : Prop :=
  m.Pairwise (fun c d => c.1 < d.1) ∧ ∀ c ∈ m, c.2 ≠ Memory.unlisted

/-- The causes of R104 and R236; `transport` is never a response. -/
inductive Cause where
  | ok
  | illegal
  | capErr
  | precond
  | storage
  | transport
deriving DecidableEq, Repr

/-- A response `(code, val)` (R103). -/
structure Response where
  code : BitVec 8
  val : Word
deriving DecidableEq, Repr

/-- The phases whose bus call can fail (R36, R236). -/
inductive BusPhase where
  | park
  | load
  | unpark
deriving DecidableEq, Repr

/-- The events of `TRACE` (R36). -/
inductive Event where
  /-- a `writeCommand` call that returned `ok` -/
  | cmd (bytes : List Byte)
  /-- a `writeData` call that returned `ok` -/
  | data (bytes : List Byte)
  /-- a wait of nominal `d` microseconds -/
  | wait (d : Nat)
  /-- a bus call in phase `p` that returned `err` -/
  | err (p : BusPhase)
deriving DecidableEq, Repr

/-- `HOP`, the host port's operation in progress (R34). -/
inductive Hop where
  | none
  | fill (layer : Layer) (v : Byte) (i : Nat)
  | derive (i : Nat)
  | stopwait
deriving DecidableEq, Repr

/-- The environment's inputs still to come: who moves next, the words the host will present, the answers of the bus and
of the store, and one counter for each kind of draw, which indexes the free value used where its list is empty.
DESIGN CHOICE, safe: notes/assumptions/2.md, 4.md, 5.md. -/
structure Env where
  picks : List Pick
  words : List Word
  bus : List BusAnswer
  nvReads : List NvReadAnswer
  nvWrites : List NvWriteAnswer
  pickDraws : Nat
  busDraws : Nat
  nvReadDraws : Nat
  nvWriteDraws : Nat
deriving DecidableEq, Repr

/-- The state: the elements of R21 to R37, the configuration (constant), the responses the host has received (R14 a, an
observer's list) and the environment's inputs. -/
structure State where
  /-- the configuration, R6 to R12 -/
  cfg : Config
  /-- the environment's inputs -/
  env : Env
  /-- `RUN` (R21) -/
  run : Bool
  /-- `GS` (R22) -/
  gs : Bool
  /-- `STOPREQ` (R23) -/
  stopReq : Bool
  /-- `CAPERR` (R24) -/
  capErr : Bool
  /-- `STEP` (R25) -/
  stepIx : BitVec 2
  /-- `PHASE` (R26) -/
  phase : BitVec 3
  /-- `CUR_SRC` (R27) -/
  curSrc : BitVec 2
  /-- `CUR_NUM` (R27) -/
  curNum : BitVec 7
  /-- `CUR_DEN` (R27) -/
  curDen : BitVec 7
  /-- `LIDX` (R28) -/
  lidx : Nat
  /-- `TX` (R28) -/
  tx : List Byte
  /-- `CYCLE` (R29) -/
  cycle : Word
  /-- `TERRCNT` (R30) -/
  terrCnt : Word
  /-- buffers A, B, C in the linear space of R61 (R31, R32) -/
  mem : Memory
  /-- `HOP` (R34) -/
  hop : Hop
  /-- `NV_VALID` (R35) -/
  nvValid : Bool
  /-- `NV_CYCLE` (R35) -/
  nvCycle : Word
  /-- `TRACE` (R36) -/
  trace : List Event
  /-- `DMUX`, `none` being unknown (R37) -/
  dmux : Option Nat
  /-- `DFRAME`, `none` being unknown (R37) -/
  dframe : Option (List Byte)
  /-- the responses delivered so far, oldest first (R14 a, R103); DESIGN CHOICE, safe: notes/assumptions/16.md -/
  resp : List Response
deriving DecidableEq, Repr

/-- Reasons for which the model stops with a fault. No state that a run of a well-formed configuration reaches raises
one. -/
inductive Fault where
  /-- Raised by an engine micro-operation when an engine register holds a reserved value: `PHASE = 7`, `STEP = 3`,
  `CUR_SRC = 3` (U12 b), `LIDX > N` (R28), or `CUR_DEN = 0` in XWAIT (R27). Safe: notes/assumptions/13.md. -/
  | reservedState
  /-- Raised by a buffer access at an address `3N` or above, which does not exist (R61). Safe. -/
  | noSuchAddress
deriving DecidableEq, Repr

/-- Reasons for which the model refuses to give a step a meaning. -/
inductive Refusal where
  /-- an arm of `exec` whose instruction has no meaning yet; no arm of this model answers it. Safe. -/
  | notModelled (mnemonic : String)
  /-- Raised by FETCH when the plan has no entry at `STEP` or an entry that is not well-formed: an ill-formed
  configuration (U12 c: `refuse`). Safe: notes/assumptions/12.md. -/
  | illFormedPlan
deriving DecidableEq, Repr

/-- What one step answers. -/
abbrev Result := Host.Outcome State Fault Refusal

/-- The environment with nothing listed. -/
def Env.empty : Env where
  picks := []
  words := []
  bus := []
  nvReads := []
  nvWrites := []
  pickDraws := 0
  busDraws := 0
  nvReadDraws := 0
  nvWriteDraws := 0

/-- The state right after reset (R270, 10_state.md section 9) in the default configuration with an empty store.
`NV_VALID`, `NV_CYCLE` at the first reset are a parameter (R35, U9): DESIGN CHOICE, unsafe, notes/assumptions/8.md. With
`NV_VALID = 0` the load gives `DEFAULT_CYCLE` whatever the read's draw (R196). -/
def State.reset : State where
  cfg := Config.default
  env := Env.empty
  run := false
  gs := true
  stopReq := false
  capErr := !Config.default.parCap
  stepIx := 0#2
  phase := 0#3
  curSrc := 0#2
  curNum := 0#7
  curDen := 0#7
  lidx := 0
  tx := []
  cycle := 27400#32
  terrCnt := 0#32
  mem := []
  hop := .none
  nvValid := false
  nvCycle := 0#32
  trace := []
  dmux := none
  dframe := none
  resp := []

end Sys2Proof.Machine
end

