-- ==== Sys2Proof/Machine/Flags.lean ====
section
/-!
DEFINITION. The control and status registers as views of the state (R38 to R40, R44).
-/

namespace Sys2Proof.Machine

/-- `STATUS.TERR`: 1 exactly when `TERRCNT != 0` (R38). -/
def State.terr (s : State) : Bool := s.terrCnt != 0#32

/-- CSR 0, `STATUS`: bit 0 RUN, 1 GS, 2 STOPREQ, 3 CAPERR, 4 TERR, 6:5 STEP, 9:7 PHASE, 11:10 CUR_SRC, 31:12 zero (R38). -/
def State.status (s : State) : Word :=
  0#20 ++ s.curSrc ++ s.phase ++ s.stepIx ++ BitVec.ofBool s.terr ++ BitVec.ofBool s.capErr ++
    BitVec.ofBool s.stopReq ++ BitVec.ofBool s.gs ++ BitVec.ofBool s.run

/-- `x[csr]`: the value of a control and status register (R38 to R40, R215). -/
def State.csr (s : State) : Csr → Word
  | .status => s.status
  | .cycle => s.cycle
  | .terrcnt => s.terrCnt

/-- `TERRCNT + 1`, saturating at `2^32 - 1` (R30, R237). -/
def saturatingSucc (n : Word) : Word := if n = 4294967295#32 then n else n + 1#32

end Sys2Proof.Machine
end

