-- ==== Sys2Proof/WellFormed.lean ====
section
/-!
DEFINITION. Well-formed instructions. The operand types already exclude reserved buffer and register numbers (R101,
R107); what is left to check is the fraction of a plan entry (R110).
-/

namespace Sys2Proof

/-- A plan fraction is well-formed when neither part is zero and it is at most one: R110, "`num = 0`, `den = 0` and
`num > den` are not well-formed". -/
def fractionWellFormed (num den : BitVec 7) : Bool :=
  num != 0#7 && den != 0#7 && decide (num.toNat ≤ den.toNat)

/-- The checks of an instruction; only SHOW has any. -/
def Instr.wellFormed : Instr → Bool
  | .start => true
  | .stop => true
  | .gson => true
  | .gsoff => true
  | .rdcsr _ => true
  | .getcyc => true
  | .adjc _ => true
  | .adjf _ => true
  | .commit => true
  | .reload => true
  | .setpx _ _ _ _ => true
  | .fill _ _ => true
  | .derive => true
  | .resolve _ _ => true
  | .wrbyte _ _ _ => true
  | .rdbyte _ _ => true
  | .showEntry _ num den => fractionWellFormed num den
  | .fetch => true
  | .park => true
  | .pwait => true
  | .load => true
  | .unpark => true
  | .xwait => true

end Sys2Proof
end

