-- ==== Sys2Proof/Decode.lean ====
section
/-!
DEFINITION. Decoding (R90 to R102, R105 to R110) and, after it, encoding from the same tables. A host command is one
32-bit word, a plan entry one 16-bit word, a micro-operation the 3-bit `PHASE` code: three code spaces, each decoded by
its own total function that rejects by name.
-/

namespace Sys2Proof

/-- Why a word spells no instruction. -/
inductive Reject where
  /-- a reserved opcode (R99) -/
  | reservedOpcode
  /-- a field marked zero that is not zero (R100) -/
  | reservedField
  /-- `buf = 3` or `csr >= 3` (R101), `src = 3` (R110) -/
  | reservedValue
  /-- a plan entry with `num = 0`, `den = 0` or `num > den` (R110) -/
  | illFormedFraction
  /-- `PHASE` 0 (IDLE, the engine has no step) or 7 (reserved): no micro-operation (R26, R109) -/
  | noMicroOp
deriving DecidableEq, Repr

/-- The opcode, `cmd[31:24]` (R90). -/
def opField (cmd : Word) : BitVec 8 := cmd.extractLsb' 24 8

/-- Bit `i` of a command word as a Boolean. -/
def bitField (cmd : Word) (i : Nat) : Bool := cmd.getLsbD i

/-- `layer` of formats P and F: 0 = A, 1 = B (R107). -/
def layerOfBit (b : Bool) : Layer := if b then .b else .a

/-- `buf` and `src` codes: 0 = A, 1 = B, 2 = C, 3 reserved (R107). -/
def bufOfCode (c : BitVec 2) : Option Buf :=
  match c with
  | 0#2 => some .a
  | 1#2 => some .b
  | 2#2 => some .c
  | _ => none

/-- CSR numbers: 0 STATUS, 1 CYCLE, 2 TERRCNT, others reserved (R38 to R41). -/
def csrOfNumber (n : BitVec 8) : Option Csr :=
  match n with
  | 0#8 => some .status
  | 1#8 => some .cycle
  | 2#8 => some .terrcnt
  | _ => none

/-- Step (2) of R106: the zero fields of a format, then the rest. -/
def checkZero (zero : Bool) (rest : Except Reject Instr) : Except Reject Instr :=
  if zero then rest else .error .reservedField

/-- Format N (R91). -/
def decodeN (cmd : Word) (i : Instr) : Except Reject Instr :=
  checkZero (cmd.extractLsb' 0 24 == 0#24) (.ok i)

/-- Format D (R92): `delta` is `cmd[15:0]`. -/
def decodeD (cmd : Word) (mk : BitVec 16 → Instr) : Except Reject Instr :=
  checkZero (cmd.extractLsb' 16 8 == 0#8) (.ok (mk (cmd.extractLsb' 0 16)))

/-- Format P (R93). -/
def decodeP (cmd : Word) : Except Reject Instr :=
  checkZero (cmd.extractLsb' 18 6 == 0#6)
    (.ok (.setpx (layerOfBit (bitField cmd 17)) (cmd.extractLsb' 8 8) (cmd.extractLsb' 0 8) (bitField cmd 16)))

/-- Format F (R94). -/
def decodeF (cmd : Word) : Except Reject Instr :=
  checkZero (cmd.extractLsb' 18 6 == 0#6 && cmd.extractLsb' 0 16 == 0#16)
    (.ok (.fill (layerOfBit (bitField cmd 17)) (bitField cmd 16)))

/-- Format C (R95). -/
def decodeC (cmd : Word) : Except Reject Instr :=
  checkZero (cmd.extractLsb' 2 22 == 0#22) (.ok (.resolve (bitField cmd 1) (bitField cmd 0)))

/-- Format B for WRBYTE (R96, R101). -/
def decodeWrbyte (cmd : Word) : Except Reject Instr :=
  match bufOfCode (cmd.extractLsb' 22 2) with
  | some buf => .ok (.wrbyte buf (cmd.extractLsb' 8 14) (cmd.extractLsb' 0 8))
  | none => .error .reservedValue

/-- Format B for RDBYTE: `value` must be zero (R96, R100, R101). -/
def decodeRdbyte (cmd : Word) : Except Reject Instr :=
  checkZero (cmd.extractLsb' 0 8 == 0#8)
    (match bufOfCode (cmd.extractLsb' 22 2) with
      | some buf => .ok (.rdbyte buf (cmd.extractLsb' 8 14))
      | none => .error .reservedValue)

/-- Format R (R97, R101). -/
def decodeR (cmd : Word) : Except Reject Instr :=
  checkZero (cmd.extractLsb' 8 16 == 0#16)
    (match csrOfNumber (cmd.extractLsb' 0 8) with
      | some csr => .ok (.rdcsr csr)
      | none => .error .reservedValue)

/-- Decoding of a command word in the order of R106: opcode, zero fields, reserved values. The opcode map is R98. -/
def decodeCommand (cmd : Word) : Except Reject Instr :=
  match opField cmd with
  | 0x01#8 => decodeN cmd .start
  | 0x02#8 => decodeN cmd .stop
  | 0x03#8 => decodeN cmd .gson
  | 0x04#8 => decodeN cmd .gsoff
  | 0x08#8 => decodeR cmd
  | 0x10#8 => decodeN cmd .getcyc
  | 0x11#8 => decodeD cmd .adjc
  | 0x12#8 => decodeD cmd .adjf
  | 0x13#8 => decodeN cmd .commit
  | 0x14#8 => decodeN cmd .reload
  | 0x20#8 => decodeP cmd
  | 0x21#8 => decodeF cmd
  | 0x22#8 => decodeN cmd .derive
  | 0x23#8 => decodeC cmd
  | 0x24#8 => decodeWrbyte cmd
  | 0x25#8 => decodeRdbyte cmd
  | _ => .error .reservedOpcode

/-- Decoding of a plan entry: `src` in bits 15:14, `num` in 13:7, `den` in 6:0 (R110). -/
def decodePlanEntry (w : BitVec 16) : Except Reject Instr :=
  match bufOfCode (w.extractLsb' 14 2) with
  | none => .error .reservedValue
  | some src =>
    if fractionWellFormed (w.extractLsb' 7 7) (w.extractLsb' 0 7) then
      .ok (.showEntry src (w.extractLsb' 7 7) (w.extractLsb' 0 7))
    else .error .illFormedFraction

/-- Decoding of the `PHASE` code (R26, R109). -/
def decodePhase (p : BitVec 3) : Except Reject Instr :=
  match p with
  | 1#3 => .ok .fetch
  | 2#3 => .ok .park
  | 3#3 => .ok .pwait
  | 4#3 => .ok .load
  | 5#3 => .ok .unpark
  | 6#3 => .ok .xwait
  | _ => .error .noMicroOp

/-- An instruction's word, in the code space it belongs to. -/
inductive Code where
  /-- a command word (R90) -/
  | command (w : Word)
  /-- a plan entry (R110) -/
  | plan (w : BitVec 16)
  /-- a `PHASE` code (R109) -/
  | phase (p : BitVec 3)
deriving DecidableEq, Repr

/-- The decoder: total on every word of every code space. -/
def decode : Code → Except Reject Instr
  | .command w => decodeCommand w
  | .plan w => decodePlanEntry w
  | .phase p => decodePhase p

/-- The `layer` bit (R107). -/
def layerBit : Layer → BitVec 1
  | .a => 0#1
  | .b => 1#1

/-- The buffer code (R107). -/
def bufCode : Buf → BitVec 2
  | .a => 0#2
  | .b => 1#2
  | .c => 2#2

/-- The CSR number (R38 to R40). -/
def csrNumber : Csr → BitVec 8
  | .status => 0#8
  | .cycle => 1#8
  | .terrcnt => 2#8

/-- A command word: the opcode in bits 31:24, then the operand bits, 24 of them (R90). -/
def commandWord {n : Nat} (op : BitVec 8) (operands : BitVec n) (h : 8 + n = 32 := by rfl) : Code :=
  .command ((op ++ operands).cast h)

/-- The encoder, from the tables of R91 to R98, R109, R110. -/
def encode : Instr → Code
  | .start => commandWord 0x01#8 0#24
  | .stop => commandWord 0x02#8 0#24
  | .gson => commandWord 0x03#8 0#24
  | .gsoff => commandWord 0x04#8 0#24
  | .rdcsr csr => commandWord 0x08#8 (0#16 ++ csrNumber csr)
  | .getcyc => commandWord 0x10#8 0#24
  | .adjc delta => commandWord 0x11#8 (0#8 ++ delta)
  | .adjf delta => commandWord 0x12#8 (0#8 ++ delta)
  | .commit => commandWord 0x13#8 0#24
  | .reload => commandWord 0x14#8 0#24
  | .setpx layer x y bit => commandWord 0x20#8 (0#6 ++ layerBit layer ++ BitVec.ofBool bit ++ x ++ y)
  | .fill layer bit => commandWord 0x21#8 (0#6 ++ layerBit layer ++ BitVec.ofBool bit ++ 0#16)
  | .derive => commandWord 0x22#8 0#24
  | .resolve bitA bitB => commandWord 0x23#8 (0#22 ++ BitVec.ofBool bitA ++ BitVec.ofBool bitB)
  | .wrbyte buf index value => commandWord 0x24#8 (bufCode buf ++ index ++ value)
  | .rdbyte buf index => commandWord 0x25#8 (bufCode buf ++ index ++ 0#8)
  | .showEntry src num den => .plan ((bufCode src ++ num ++ den).cast rfl)
  | .fetch => .phase 1#3
  | .park => .phase 2#3
  | .pwait => .phase 3#3
  | .load => .phase 4#3
  | .unpark => .phase 5#3
  | .xwait => .phase 6#3

/-- The code space of a row of spec/opcode_table.json with `nbits` bits (in whole bytes): a 3-bit `PHASE` code fills one
byte, a plan entry two, a command word four; `none` where the bits do not fit the code. -/
def tableCode (nbits w : Nat) : Option Code :=
  if nbits ≤ 8 then (if w < 8 then some (.phase (BitVec.ofNat 3 w)) else none)
  else if nbits ≤ 16 then (if w < 65536 then some (.plan (BitVec.ofNat 16 w)) else none)
  else if w < 4294967296 then some (.command (BitVec.ofNat 32 w)) else none

/-- The instruction the decoder reads from a table row's bits. -/
def decodeTableWord (nbits w : Nat) : Option Instr :=
  match tableCode nbits w with
  | none => none
  | some c =>
    match decode c with
    | .ok i => some i
    | .error _ => none

end Sys2Proof
end

