-- ==== Sys2Proof/Machine/Operands.lean ====
section
/-!
DEFINITION. Operand forms and the arithmetic over them: geometry and addresses (R6, R61, R62), pixel lanes (R120, R126),
the colour table (R11, R108), the calibration sum (R193), the durations (R164, R165), the bus bytes (R111, R144).
-/

namespace Sys2Proof

/-- `PAGES = H / 8` (R6). -/
def Config.pages (c : Config) : Nat := c.h / 8

/-- `N = W * PAGES`, bytes per buffer (R6). -/
def Config.frameBytes (c : Config) : Nat := c.w * c.pages

/-- `UNPARK_ROWS = H + MARGIN_ROWS` (R7). -/
def Config.unparkRows (c : Config) : Nat := c.h + c.marginRows

/-- `STEP_EXTRA_CMD[src]` (R12, R144). -/
def Config.extraCmd (c : Config) (src : BitVec 2) : List Byte :=
  match src with
  | 0#2 => c.extraA
  | 1#2 => c.extraB
  | _ => c.extraC

end Sys2Proof

namespace Sys2Proof.Machine

/-- The buffer number of a layer: 0 = A, 1 = B (R107). -/
def layerNumber : Layer → Nat
  | .a => 0
  | .b => 1

/-- The buffer number: 0 = A, 1 = B, 2 = C (R107). -/
def bufNumber : Buf → Nat
  | .a => 0
  | .b => 1
  | .c => 2

/-- Byte `i` of buffer number `b` lies at the linear address `b * N + i` (R61). -/
def bufAddr (c : Config) (b i : Nat) : Nat := b * c.frameBytes + i

/-- The byte index of the pixel at column `x`, row `y`: `(y div 8) * W + x` (R62). -/
def pixelIndex (c : Config) (x y : Nat) : Nat := (y / 8) * c.w + x

/-- The 8-bit mask of row `y`: `1 << (y mod 8)` (R62, R120). PRESUMED from general knowledge by the spec (GK2): bit 0 is
the topmost of the 8 pixels, notes/assumptions/10.md. -/
def pixelMask (y : Nat) : Byte := 1#8 <<< (y % 8)

/-- One lane of a byte set or cleared, the other seven kept (R120, R126). -/
def setLane (old : Byte) (y : Nat) (bit : Bool) : Byte :=
  if bit then old ||| pixelMask y else old &&& ~~~(pixelMask y)

/-- The byte FILL writes: all lanes alike (R121, R126). -/
def fillByte (bit : Bool) : Byte := if bit then 0xFF#8 else 0x00#8

/-- GrayLevel codes (R108). -/
def grayCode : GrayLevel → Word
  | .black => 0#32
  | .low => 1#32
  | .mid => 2#32
  | .full => 3#32

/-- `RESOLVE_LUT[2*bitA + bitB]` (R11, R123). -/
def resolveLevel (c : Config) (bitA bitB : Bool) : GrayLevel :=
  match bitA, bitB with
  | false, false => c.resolveLut[0]
  | false, true => c.resolveLut[1]
  | true, false => c.resolveLut[2]
  | true, true => c.resolveLut[3]

/-- `clamp(v, lo, hi)` of 00_scope.md section 5. -/
def clamp (v lo hi : Int) : Int := if v < lo then lo else if v > hi then hi else v

/-- The calibration sum: exact in the integers, then saturated into `CYCLE_MIN .. CYCLE_MAX` (R191 to R193). -/
def adjustCycle (c : Config) (cycle : Word) (delta : BitVec 16) (stepSize : Nat) : Word :=
  BitVec.ofNat 32 (clamp (cycle.toNat + delta.toInt * stepSize) c.cycleMin c.cycleMax).toNat

/-- `row_time(n) = floor(n * CYCLE / ROWS_PER_CYCLE)`, microseconds (R164). -/
def rowTime (c : Config) (cycle : Word) (n : Nat) : Nat := n * cycle.toNat / c.rowsPerCycle

/-- `expose(num, den) = floor(CYCLE * num / den)`, microseconds (R165). -/
def expose (cycle : Word) (num den : BitVec 7) : Nat := cycle.toNat * num.toNat / den.toNat

/-- The operand byte of the multiplex-ratio command for a row count (R111); a table that is too short, which no
well-formed configuration has, gives 0. -/
def muxOperandByte (form : MuxOperand) (rows : Nat) : Byte :=
  match form with
  | .rowsMinus offset => BitVec.ofNat 8 (rows - offset)
  | .table operands => operands.getD (rows - 1) 0#8

/-- `SetMux(rows) = [MUX_CMD, rows - 1]`, the command byte and the operand form both parameters (R111, D26). Their
defaults are the spec's general knowledge (GK1): notes/assumptions/9.md. -/
def setMux (c : Config) (rows : Nat) : List Byte := [c.muxCmd, muxOperandByte c.muxOperand rows]

/-- The bytes of the park call (R141). -/
def parkBytes (c : Config) : List Byte := setMux c c.parkRows

/-- The bytes of the unpark call: `SetMux(UNPARK_ROWS) ++ STEP_EXTRA_CMD[CUR_SRC]`, one call (R144). -/
def unparkBytes (c : Config) (src : BitVec 2) : List Byte := setMux c c.unparkRows ++ c.extraCmd src

end Sys2Proof.Machine
end

