-- ==== Sys2Proof/Machine/Ops.lean ====
section
/-!
DEFINITION. The operations the meanings share: the buffer memory (R61, R66), responses and refusals (R103, R104, R231,
R239), the environment's draws (R146, R196), the plan (R8, R161), the skip procedure of a transport error (R237) with its
return (R242), the load of the cycle time (R196) and the reset sequence (R270).
-/

namespace Sys2Proof.Machine

/-! ### Buffer memory -/

/-- The byte a memory holds at an address. -/
def Memory.byteAt : Memory → Nat → Byte
  | [], _ => Memory.unlisted
  | (b, v) :: rest, a => if a = b then v else Memory.byteAt rest a

/-- The memory with a byte written, kept in canonical form. -/
def Memory.store : Memory → Nat → Byte → Memory
  | [], a, v => if v = Memory.unlisted then [] else [(a, v)]
  | (b, w) :: rest, a, v =>
    if a < b then (if v = Memory.unlisted then (b, w) :: rest else (a, v) :: (b, w) :: rest)
    else if a = b then (if v = Memory.unlisted then rest else (a, v) :: rest)
    else (b, w) :: Memory.store rest a v

/-- The state with another memory. -/
def State.withMem (s : State) (m : Memory) : State := { s with mem := m }

/-- `MemRead(addr, 1)`: a byte of BUF; an address at or above `3N` does not exist (R60, R61). -/
def State.memRead (s : State) (a : Nat) : Option Byte :=
  if a < 3 * s.cfg.frameBytes then some (s.mem.byteAt a) else none

/-- `MemWrite(addr, 1, v)` (R60, R61). -/
def State.memWrite (s : State) (a : Nat) (v : Byte) : Option State :=
  if a < 3 * s.cfg.frameBytes then some (s.withMem (s.mem.store a v)) else none

/-- A value that a buffer access answers, or the fault of an address that does not exist. -/
def orNoSuchAddress {α : Type} (x : Option α) (k : α → Result) : Result :=
  match x with
  | some a => k a
  | none => .fault .noSuchAddress

/-! ### Responses, refusals, the prelude -/

/-- The code numbers of R104; `TRANSPORT` is a cause number only (R236). -/
def causeNumber : Cause → BitVec 8
  | .ok => 0#8
  | .illegal => 1#8
  | .capErr => 2#8
  | .precond => 3#8
  | .storage => 4#8
  | .transport => 5#8

/-- `respond(code, val)`: the current command's one response (R103). -/
def State.respond (s : State) (c : Cause) (val : Word) : State :=
  { s with resp := s.resp ++ [{ code := causeNumber c, val := val }] }

/-- `raise X` of a host command: the response `(X, 0)` and no state change (R231). A host command has no handler to
enter and none to return from: the port is ready for the next word (R241). -/
def State.raise (s : State) (c : Cause) : State := s.respond c 0#32

/-- Step (2) of R239: with `CAPERR = 1` every command but RDCSR is refused (R233). -/
def capGuard (s : State) (effect : Result) : Result :=
  if s.capErr then .next (s.raise .capErr) else effect

/-- The host port's operation in progress (R34). -/
def State.withHop (s : State) (h : Hop) : State := { s with hop := h }

/-! ### Draws -/

/-- The answer the bus gives to the next call (R146). -/
def State.nextBus (s : State) : BusAnswer := s.env.bus.headD (Config.freeBusAnswer s.env.busDraws)

/-- The environment after a bus call has returned. -/
def Env.takeBus (e : Env) : Env :=
  match e.bus with
  | [] => { e with busDraws := e.busDraws + 1 }
  | _ :: rest => { e with bus := rest }

/-- The state after a bus call has returned. -/
def State.takeBus (s : State) : State := { s with env := s.env.takeBus }

/-- The outcome of the next `NvRead` (R196). -/
def State.nextNvRead (s : State) : NvReadAnswer := s.env.nvReads.headD (Config.freeNvRead s.env.nvReadDraws)

/-- The environment after an `NvRead`. -/
def Env.takeNvRead (e : Env) : Env :=
  match e.nvReads with
  | [] => { e with nvReadDraws := e.nvReadDraws + 1 }
  | _ :: rest => { e with nvReads := rest }

/-- The state after an `NvRead`; the store itself is not changed (R67). -/
def State.takeNvRead (s : State) : State := { s with env := s.env.takeNvRead }

/-- The outcome of the next `NvWrite` (R194). -/
def State.nextNvWrite (s : State) : NvWriteAnswer := s.env.nvWrites.headD (Config.freeNvWrite s.env.nvWriteDraws)

/-- The environment after an `NvWrite`. -/
def Env.takeNvWrite (e : Env) : Env :=
  match e.nvWrites with
  | [] => { e with nvWriteDraws := e.nvWriteDraws + 1 }
  | _ :: rest => { e with nvWrites := rest }

/-- The state after an `NvWrite`, before the store's new content is set. -/
def State.takeNvWrite (s : State) : State := { s with env := s.env.takeNvWrite }

/-- Who moves next (R3, R72). -/
def State.nextPick (s : State) : Pick := s.env.picks.headD (Config.freePick s.env.pickDraws)

/-- The environment after a pick. -/
def Env.takePick (e : Env) : Env :=
  match e.picks with
  | [] => { e with pickDraws := e.pickDraws + 1 }
  | _ :: rest => { e with picks := rest }

/-- The state after a pick. -/
def State.takePick (s : State) : State := { s with env := s.env.takePick }

/-- The state after the port has accepted a command word; `rest` are the words the host presents after it (R90). -/
def State.acceptWord (s : State) (rest : List Word) : State := { s with env := { s.env with words := rest } }

/-- The store's content (R35). -/
def State.withNv (s : State) (valid : Bool) (value : Word) : State := { s with nvValid := valid, nvCycle := value }

/-! ### Engine position and plan -/

/-- The phase codes of R26. -/
def phaseIdle : BitVec 3 := 0#3
/-- FETCH (R26). -/
def phaseFetch : BitVec 3 := 1#3
/-- PARK (R26). -/
def phasePark : BitVec 3 := 2#3
/-- PWAIT (R26). -/
def phasePwait : BitVec 3 := 3#3
/-- LOAD (R26). -/
def phaseLoad : BitVec 3 := 4#3
/-- UNPARK (R26). -/
def phaseUnpark : BitVec 3 := 5#3
/-- XWAIT (R26). -/
def phaseXwait : BitVec 3 := 6#3

/-- `plan(GS)`: `PLAN_GS` if `GS = 1`, else `PLAN_PLAIN` (00_scope.md section 5). -/
def State.plan (s : State) : List (BitVec 16) := if s.gs then s.cfg.planGs else s.cfg.planPlain

/-- `STEP`, clipped to 0 when it is beyond the current plan (R161). -/
def State.clippedStep (s : State) : BitVec 2 := if s.plan.length ≤ s.stepIx.toNat then 0#2 else s.stepIx

/-- The SHOW word the engine is at: `plan(GS)[STEP]` with `STEP` clipped (R161). -/
def State.planWord (s : State) : Option (BitVec 16) := s.plan[s.clippedStep.toNat]?

/-- `(STEP + 1) mod len(plan(GS))` (R163, R237). -/
def State.nextStepIx (s : State) : BitVec 2 := BitVec.ofNat 2 ((s.stepIx.toNat + 1) % s.plan.length)

/-- The end of a sub-frame step: `STEP` advances, `PHASE <- FETCH` (R43, R163, R237). -/
def State.advance (s : State) : State := { s with stepIx := s.nextStepIx, phase := phaseFetch }

/-- `PHASE <- p` (R43). -/
def State.withPhase (s : State) (p : BitVec 3) : State := { s with phase := p }

/-- `trace(e)`: append an event (R36). -/
def State.pushEvent (s : State) (e : Event) : State := { s with trace := s.trace ++ [e] }

/-- `TX <- []; LIDX <- 0` (R143, R162, R237). -/
def State.clearTx (s : State) : State := { s with tx := [], lidx := 0 }

/-- One byte of the frame read: `TX <- TX ++ [b]; LIDX <- LIDX + 1` (R142). -/
def State.pushTx (s : State) (b : Byte) : State := { s with tx := s.tx ++ [b], lidx := s.lidx + 1 }

/-- The display shadow `DMUX` (R37). -/
def State.withDmux (s : State) (rows : Option Nat) : State := { s with dmux := rows }

/-- The display shadow `DFRAME` (R37). -/
def State.withDframe (s : State) (frame : Option (List Byte)) : State := { s with dframe := frame }

/-- Some engine register holds a reserved value (U12 b). -/
def State.reservedRegs (s : State) : Bool := s.stepIx == 3#2 || s.curSrc == 3#2

/-- An engine micro-operation: enabled when `RUN = 1` and `PHASE` names it (R141 to R144, R161 to R163); where it is not
enabled the engine has no such step and nothing changes. Reserved register values fault (U12 b). -/
def microOp (p : BitVec 3) (s : State) (effect : Result) : Result :=
  if s.run && s.phase == p then
    if s.reservedRegs then .fault .reservedState else effect
  else .next s

/-- The same micro-operation as a change of state, for use inside a SHOW whose registers are known to be legal (R160). -/
def microEffect (p : BitVec 3) (effect : State → State) (s : State) : State :=
  if s.run && s.phase == p then effect s else s

/-! ### A transport error: entry and return -/

/-- The skip procedure, `raise Transport(p)` (R237): the error is counted and traced, the gathered frame dropped, the
sub-frame skipped. It saves nothing (R242). -/
def State.skip (s : State) (p : BusPhase) : State :=
  (({ s with terrCnt := saturatingSucc s.terrCnt }.pushEvent (.err p)).clearTx).advance

/-- The return from a transport error: the FETCH that follows, at the position the skip left (R242); `RUN` stays 1
(R152). -/
def State.returnsToFetch (s : State) : Bool := s.run && s.phase == phaseFetch

/-- A bus call of phase `p` (R146): with `ok` the call's own effect, with `err` the loss it causes in the shadow and then
the skip procedure, and with no answer nothing at all: the engine has no further step (R238, U2) and the draw is not
used up, so no later pick of the engine gets past it. There is no timeout. -/
def busCall (p : BusPhase) (onOk onErr : State → State) (s : State) : State :=
  match s.nextBus with
  | .ok => onOk s.takeBus
  | .err => (onErr s.takeBus).skip p
  | .never => s

/-! ### The store and reset -/

/-- A stored value that `LoadCycle()` can use (R196). -/
def State.storedCycleUsable (s : State) : Bool :=
  s.nvValid && decide (s.cfg.cycleMin ≤ s.nvCycle.toNat) && decide (s.nvCycle.toNat ≤ s.cfg.cycleMax)

/-- `LoadCycle()` (R196): the stored value when the read succeeds and the value is valid and in range, else the default;
no error is reported. -/
def State.loadCycle (s : State) : Word :=
  match s.nextNvRead with
  | .ok => if s.storedCycleUsable then s.nvCycle else BitVec.ofNat 32 s.cfg.defaultCycle
  | .fail => BitVec.ofNat 32 s.cfg.defaultCycle

/-- `CYCLE <- LoadCycle()`, one `NvRead` (R195, R270). -/
def State.reloadCycle (s : State) : State := { s.takeNvRead with cycle := s.loadCycle }

/-- The engine stands at a bus call (R141, R143, R144). -/
def State.atBusCall (s : State) : Bool :=
  s.run && (s.phase == phasePark || s.phase == phaseUnpark || (s.phase == phaseLoad && s.lidx == s.cfg.frameBytes))

/-- A bus call in flight that never returns ends with the engine that made it (R238, R271): a later call is a new draw.
DEDUCED, safe: notes/assumptions/6.md. -/
def State.dropHungCall (s : State) : State := if s.atBusCall && s.nextBus == .never then s.takeBus else s

/-- The reset sequence with the strap `PAR_CAP` at a level (R270). The store, the configuration, the responses already
delivered and the environment's inputs are not touched but for the one `NvRead` (R271, notes/assumptions/15.md). A command
in progress is dropped without a response (R270 writes `HOP` and delivers nothing): notes/assumptions/24.md. -/
def resetSequence (parCap : Bool) (s : State) : State :=
  State.reloadCycle
    { s.dropHungCall with
      capErr := !parCap
      run := false
      stopReq := false
      gs := true
      stepIx := 0#2
      phase := phaseIdle
      curSrc := 0#2
      curNum := 0#7
      curDen := 0#7
      lidx := 0
      tx := []
      terrCnt := 0#32
      mem := []
      hop := .none
      trace := []
      dmux := none
      dframe := none }

end Sys2Proof.Machine
end

