-- ==== Sys2Proof/Machine/Buffer.lean ====
section
/-!
DEFINITION. The layer-buffer and colour-resolver commands: SETPX, FILL, DERIVE, RESOLVE, WRBYTE, RDBYTE (R120 to R126).
-/

namespace Sys2Proof.Machine

/-- SETPX (R120): bounds first, then one atomic read-modify-write of the pixel's byte. -/
def execSetpx (layer : Layer) (x y : BitVec 8) (bit : Bool) (s : State) : Result :=
  capGuard s <|
    if s.cfg.w ≤ x.toNat ∨ s.cfg.h ≤ y.toNat then .next (s.raise .precond)
    else
      let a := bufAddr s.cfg (layerNumber layer) (pixelIndex s.cfg x.toNat y.toNat)
      orNoSuchAddress (s.memRead a) fun old =>
        orNoSuchAddress (s.memWrite a (setLane old y.toNat bit)) fun t => .next (t.respond .ok 0#32)

/-- The host port after micro-step `i` of an `N`-step command: the next index, or the response after the last (R34,
R121, R122). -/
def State.finishAt (s : State) (i : Nat) (more : Hop) : State :=
  if i + 1 < s.cfg.frameBytes then s.withHop more else (s.withHop .none).respond .ok 0#32

/-- Micro-step `i` of FILL (R121); past the last byte only the response is left. -/
def fillMicroStep (layer : Layer) (v : Byte) (i : Nat) (s : State) : Result :=
  if i < s.cfg.frameBytes then
    orNoSuchAddress (s.memWrite (bufAddr s.cfg (layerNumber layer) i) v) fun t =>
      .next (t.finishAt i (.fill layer v (i + 1)))
  else .next ((s.withHop .none).respond .ok 0#32)

/-- FILL (R121): the word is accepted and byte 0 written in the first of the `N` micro-steps. DEDUCED, safe:
notes/assumptions/11.md. -/
def execFill (layer : Layer) (bit : Bool) (s : State) : Result :=
  capGuard s (fillMicroStep layer (fillByte bit) 0 (s.withHop (.fill layer (fillByte bit) 0)))

/-- Micro-step `i` of DERIVE: `C[i] <- A[i] & B[i]`, atomic (R66, R122). -/
def deriveMicroStep (i : Nat) (s : State) : Result :=
  if i < s.cfg.frameBytes then
    orNoSuchAddress (s.memRead (bufAddr s.cfg 0 i)) fun va =>
      orNoSuchAddress (s.memRead (bufAddr s.cfg 1 i)) fun vb =>
        orNoSuchAddress (s.memWrite (bufAddr s.cfg 2 i) (va &&& vb)) fun t =>
          .next (t.finishAt i (.derive (i + 1)))
  else .next ((s.withHop .none).respond .ok 0#32)

/-- DERIVE (R122): the word is accepted and index 0 derived in the first of the `N` micro-steps. DEDUCED, safe:
notes/assumptions/11.md. -/
def execDerive (s : State) : Result :=
  capGuard s (deriveMicroStep 0 (s.withHop (.derive 0)))

/-- RESOLVE (R123): a pure function of the two bits. -/
def execResolve (bitA bitB : Bool) (s : State) : Result :=
  capGuard s (.next (s.respond .ok (grayCode (resolveLevel s.cfg bitA bitB))))

/-- WRBYTE (R124): C is read-only to the host, and the index is bounded. -/
def execWrbyte (buf : Buf) (index : BitVec 14) (value : Byte) (s : State) : Result :=
  capGuard s <|
    if buf = .c ∨ s.cfg.frameBytes ≤ index.toNat then .next (s.raise .precond)
    else
      orNoSuchAddress (s.memWrite (bufAddr s.cfg (bufNumber buf) index.toNat) value) fun t =>
        .next (t.respond .ok 0#32)

/-- RDBYTE (R125). -/
def execRdbyte (buf : Buf) (index : BitVec 14) (s : State) : Result :=
  capGuard s <|
    if s.cfg.frameBytes ≤ index.toNat then .next (s.raise .precond)
    else
      orNoSuchAddress (s.memRead (bufAddr s.cfg (bufNumber buf) index.toNat)) fun v =>
        .next (s.respond .ok (v.setWidth 32))

end Sys2Proof.Machine
end

