-- ==== Sys2Proof/Machine/Calibration.lean ====
section
/-!
DEFINITION. The calibration commands: GETCYC, ADJC, ADJF, COMMIT, RELOAD (R190 to R197).
-/

namespace Sys2Proof.Machine

/-- GETCYC (R190). -/
def execGetcyc (s : State) : Result := capGuard s (.next (s.respond .ok s.cycle))

/-- `CYCLE` set by an adjustment and answered (R191, R192). -/
def State.setCycle (s : State) (v : Word) : State := { s with cycle := v }.respond .ok v

/-- ADJC (R191, R193). -/
def execAdjc (delta : BitVec 16) (s : State) : Result :=
  capGuard s (.next (s.setCycle (adjustCycle s.cfg s.cycle delta s.cfg.coarseStep)))

/-- ADJF (R192, R193). -/
def execAdjf (delta : BitVec 16) (s : State) : Result :=
  capGuard s (.next (s.setCycle (adjustCycle s.cfg s.cycle delta s.cfg.fineStep)))

/-- The store access of COMMIT (R194): on success the store holds `CYCLE`; on failure its content is arbitrary, carried
by the draw (U7), and `STORAGE` is answered. -/
def State.commitCycle (s : State) : State :=
  match s.nextNvWrite with
  | .ok => (s.takeNvWrite.withNv true s.cycle).respond .ok s.cycle
  | .fail valid value => (s.takeNvWrite.withNv valid value).raise .storage

/-- COMMIT (R194): refused while RUNNING with no storage access (R69). -/
def execCommit (s : State) : Result :=
  capGuard s (.next (if s.run then s.raise .precond else s.commitCycle))

/-- RELOAD (R195): refused while RUNNING with no storage access (R69). -/
def execReload (s : State) : Result :=
  capGuard s (.next (if s.run then s.raise .precond else s.reloadCycle.respond .ok s.loadCycle))

end Sys2Proof.Machine
end

