-- ==== Sys2Proof/Machine/Lifecycle.lean ====
section
/-!
DEFINITION. The lifecycle commands: START, STOP, GSON, GSOFF, RDCSR (R210 to R218).
-/

namespace Sys2Proof.Machine

/-- The engine launched at its entry point `(0, FETCH)` (R71, R210). -/
def State.launch (s : State) : State :=
  { s with stopReq := false, stepIx := 0#2, phase := phaseFetch, run := true }

/-- START (R210): a no-op while RUNNING. -/
def execStart (s : State) : Result :=
  capGuard s (.next ((if s.run then s else s.launch).respond .ok 0#32))

/-- STOP, request half (R211): a no-op while STOPPED; else the request is set and the host port held. -/
def execStop (s : State) : Result :=
  capGuard s (.next (if s.run then { s with stopReq := true, hop := .stopwait } else s.respond .ok 0#32))

/-- STOP, join half (R212): enabled when the engine's exit has cleared `RUN`; until then the host has no step. -/
def stopJoin (s : State) : State :=
  if s.run then s else (s.withHop .none).respond .ok 0#32

/-- GSON (R213). -/
def execGson (s : State) : Result := capGuard s (.next ({ s with gs := true }.respond .ok 0#32))

/-- GSOFF (R214). -/
def execGsoff (s : State) : Result := capGuard s (.next ({ s with gs := false }.respond .ok 0#32))

/-- RDCSR (R215): legal in every state, `CAPERR = 1` included (R233). -/
def execRdcsr (csr : Csr) (s : State) : Result := .next (s.respond .ok (s.csr csr))

end Sys2Proof.Machine
end

