-- ==== Sys2Proof/Machine/Sequencer.lean ====
section
/-!
DEFINITION. The display command sequencer and the frame-buffer mux: PARK, LOAD, UNPARK (R140 to R152).
-/

namespace Sys2Proof.Machine

/-- The effect of PARK (R141). -/
def parkEffect (s : State) : State :=
  busCall .park
    (fun t => ((t.pushEvent (.cmd (parkBytes t.cfg))).withDmux (some t.cfg.parkRows)).withPhase phasePwait)
    (fun t => t.withDmux none) s

/-- PARK (R141). -/
def execPark (s : State) : Result := microOp phasePark s (.next (parkEffect s))

/-- The mux: the address of the next byte of the buffer that `CUR_SRC` selects (R61, R142). -/
def State.loadAddr (s : State) : Nat := bufAddr s.cfg s.curSrc.toNat s.lidx

/-- LOAD, read micro-step (R142). -/
def readEffect (s : State) : State := s.pushTx (s.mem.byteAt s.loadAddr)

/-- LOAD, transmit micro-step (R143). -/
def transmitEffect (s : State) : State :=
  busCall .load
    (fun t => ((t.pushEvent (.data t.tx)).withDframe (some t.tx)).clearTx.withPhase phaseUnpark)
    (fun t => (t.withDframe none).clearTx) s

/-- The effect of one LOAD micro-step: a read while `LIDX < N`, then the transmit (R142, R143). -/
def loadEffect (s : State) : State :=
  if s.lidx < s.cfg.frameBytes then readEffect s else transmitEffect s

/-- LOAD (R142, R143). `LIDX > N` is outside the register's range (R28) and faults. -/
def execLoad (s : State) : Result :=
  microOp phaseLoad s <|
    if s.cfg.frameBytes < s.lidx then .fault .reservedState
    else if s.lidx < s.cfg.frameBytes then orNoSuchAddress (s.memRead s.loadAddr) fun _ => .next (readEffect s)
    else .next (transmitEffect s)

/-- The effect of UNPARK (R144): one `writeCommand` call, the extra bytes of the step's source riding in it. -/
def unparkEffect (s : State) : State :=
  busCall .unpark
    (fun t =>
      ((t.pushEvent (.cmd (unparkBytes t.cfg t.curSrc))).withDmux (some t.cfg.unparkRows)).withPhase phaseXwait)
    (fun t => t.withDmux none) s

/-- UNPARK (R144). -/
def execUnpark (s : State) : Result := microOp phaseUnpark s (.next (unparkEffect s))

end Sys2Proof.Machine
end

