-- ==== Sys2Proof/Machine/Scheduler.lean ====
section
/-!
DEFINITION. The scheduling loop: SHOW and its micro-operations FETCH, PWAIT, XWAIT (R160 to R176).
-/

namespace Sys2Proof.Machine

/-- The plan entry latched: `(CUR_SRC, CUR_NUM, CUR_DEN) <- (src, num, den)`, `STEP` clipped, `PHASE <- PARK` (R161). -/
def State.latch (s : State) (src : Buf) (num den : BitVec 7) : State :=
  { s with stepIx := s.clippedStep, curSrc := bufCode src, curNum := num, curDen := den, phase := phasePark }

/-- The engine's exit: `RUN <- 0; STOPREQ <- 0; PHASE <- IDLE`, `STEP` kept (R161, R243). -/
def State.exitEngine (s : State) : State := { s with run := false, stopReq := false, phase := phaseIdle }

/-- The effect of a FETCH that finds this entry: the stop flag is read here and nowhere else (R161). -/
def fetchEffect (src : Buf) (num den : BitVec 7) (s : State) : State :=
  if s.stopReq then s.exitEngine else s.latch src num den

/-- The plan entry the engine is at, decoded (R110, R161). -/
def State.planEntry (s : State) : Option (Buf × BitVec 7 × BitVec 7) :=
  match s.planWord with
  | none => none
  | some w =>
    match decodePlanEntry w with
    | .ok (.showEntry src num den) => some (src, num, den)
    | _ => none

/-- FETCH (R161). A plan with no well-formed entry here is an ill-formed configuration and is refused (U12 c). -/
def execFetch (s : State) : Result :=
  microOp phaseFetch s <|
    if s.stopReq then .next s.exitEngine
    else
      match s.planEntry with
      | some (src, num, den) => .next (s.latch src num den)
      | none => .refused .illFormedPlan

/-- The effect of PWAIT (R162): `CYCLE` is sampled now (R171). -/
def pwaitEffect (s : State) : State :=
  ((s.pushEvent (.wait (rowTime s.cfg s.cycle s.cfg.parkWaitRows))).clearTx).withPhase phaseLoad

/-- PWAIT (R162). -/
def execPwait (s : State) : Result := microOp phasePwait s (.next (pwaitEffect s))

/-- The effect of XWAIT (R163): `CYCLE` and `GS` are sampled now (R171, R172). -/
def xwaitEffect (s : State) : State :=
  (s.pushEvent (.wait (expose s.cycle s.curNum s.curDen))).advance

/-- XWAIT and the step advance (R163). `CUR_DEN = 0` is no latched denominator (R27, R110) and faults. -/
def execXwait (s : State) : Result :=
  microOp phaseXwait s (if s.curDen = 0#7 then .fault .reservedState else .next (xwaitEffect s))

/-- A micro-operation repeated: LOAD is `N + 1` micro-steps (R160). -/
def repeatEffect : Nat → (State → State) → State → State
  | 0, _, s => s
  | k + 1, f, s => repeatEffect k f (f s)

/-- The micro-operations of a SHOW in order, with no other engine step between (R160). A phase the step does not reach,
because the engine exited, the sub-frame was skipped or the bus hangs, is not enabled and changes nothing. -/
def showEffect (src : Buf) (num den : BitVec 7) (s : State) : State :=
  microEffect phaseXwait xwaitEffect <|
  microEffect phaseUnpark unparkEffect <|
  repeatEffect (s.cfg.frameBytes + 1) (microEffect phaseLoad loadEffect) <|
  microEffect phasePwait pwaitEffect <|
  microEffect phasePark parkEffect <|
  fetchEffect src num den s

/-- SHOW src, num/den (R160): one sub-frame step from its FETCH on. It is enabled where a sub-frame step begins; its
micro-operations are atomic steps of their own, and a pick of the whole is one of their interleavings. DESIGN CHOICE,
safe: notes/assumptions/3.md. -/
def execShowEntry (src : Buf) (num den : BitVec 7) (s : State) : Result :=
  microOp phaseFetch s <|
    if fractionWellFormed num den then .next (showEffect src num den s) else .refused .illFormedPlan

end Sys2Proof.Machine
end

