-- ==== Sys2Proof/Machine/Dispatch.lean ====
section
/-!
DEFINITION. One arm per constructor of `Instr`, each a direct call of the instruction's meaning.
-/

namespace Sys2Proof.Machine

def exec (i : Instr) (s : State) : Host.Outcome State Fault Refusal :=
  match i with
  | .start => Sys2Proof.Machine.execStart s
  | .stop => Sys2Proof.Machine.execStop s
  | .gson => Sys2Proof.Machine.execGson s
  | .gsoff => Sys2Proof.Machine.execGsoff s
  | .rdcsr csr => Sys2Proof.Machine.execRdcsr csr s
  | .getcyc => Sys2Proof.Machine.execGetcyc s
  | .adjc delta => Sys2Proof.Machine.execAdjc delta s
  | .adjf delta => Sys2Proof.Machine.execAdjf delta s
  | .commit => Sys2Proof.Machine.execCommit s
  | .reload => Sys2Proof.Machine.execReload s
  | .setpx layer x y bit => Sys2Proof.Machine.execSetpx layer x y bit s
  | .fill layer bit => Sys2Proof.Machine.execFill layer bit s
  | .derive => Sys2Proof.Machine.execDerive s
  | .resolve bitA bitB => Sys2Proof.Machine.execResolve bitA bitB s
  | .wrbyte buf index value => Sys2Proof.Machine.execWrbyte buf index value s
  | .rdbyte buf index => Sys2Proof.Machine.execRdbyte buf index s
  | .showEntry src num den => Sys2Proof.Machine.execShowEntry src num den s
  | .fetch => Sys2Proof.Machine.execFetch s
  | .park => Sys2Proof.Machine.execPark s
  | .pwait => Sys2Proof.Machine.execPwait s
  | .load => Sys2Proof.Machine.execLoad s
  | .unpark => Sys2Proof.Machine.execUnpark s
  | .xwait => Sys2Proof.Machine.execXwait s

end Sys2Proof.Machine
end

