-- ==== Sys2Proof/Machine/Fetch.lean ====
section
/-!
DEFINITION. What the picked agent does next: the instruction it fetches and the state it runs it in, or a micro-step that
fetches nothing (a continuation of the host's operation, a refused word, an agent with no enabled step, a reset).
-/

namespace Sys2Proof.Machine

/-- The picked agent's move. -/
inductive Move where
  /-- an instruction fetched and decoded, and the state it runs in -/
  | run (i : Instr) (s : State)
  /-- a micro-step that fetches no instruction -/
  | done (r : Result)
deriving Repr

/-- The host's micro-step while `HOP` is not `none`: the continuation of its operation (R34, R121, R122, R212). -/
def hostContinue (s : State) : Result :=
  match s.hop with
  | .none => .next s
  | .fill layer v i => fillMicroStep layer v i s
  | .derive i => deriveMicroStep i s
  | .stopwait => .next (stopJoin s)

/-- The host's move: with a free port the next word is accepted and decoded (R34, R90), a word that spells no command
answered `ILLEGAL` (R106, R232); a held port continues. With no word left to present the host has no step (log 4). -/
def hostMove (s : State) : Move :=
  match s.hop with
  | .none =>
    match s.env.words with
    | [] => .done (.next s)
    | cmd :: rest =>
      match decodeCommand cmd with
      | .ok i => .run i (s.acceptWord rest)
      | .error _ => .done (.next ((s.acceptWord rest).raise .illegal))
  | _ => .done (hostContinue s)

/-- The engine's move: it has a step only while `RUN = 1`, and `PHASE` names the micro-operation (R43, R160). `PHASE = 7`
is reserved and faults (U12 b); IDLE has no step (R26). -/
def engineMove (s : State) : Move :=
  if s.run then
    match decodePhase s.phase with
    | .ok i => .run i s
    | .error _ => .done (if s.phase = phaseIdle then .next s else .fault .reservedState)
  else .done (.next s)

/-- A whole sub-frame step, where one begins: the SHOW word of the plan at `STEP` (R43, R160). Elsewhere, or where the
plan has no well-formed entry, the engine's next micro-operation. -/
def subframeMove (s : State) : Move :=
  if s.run && s.phase == phaseFetch then
    match s.planEntry with
    | some (src, num, den) => .run (.showEntry src num den) s
    | none => engineMove s
  else engineMove s

/-- A plan with one entry replaced, the only entry where the plan is empty: where a SHOW word is placed to be run next (R110,
notes/assumptions/17.md). -/
def placeEntry (plan : List (BitVec 16)) (k : Nat) (w : BitVec 16) : List (BitVec 16) :=
  if plan = [] then [w] else plan.set k w

/-- The state as the FETCH of the plan entry at `STEP` leaves the latches (R27, R161): where a later micro-operation is
placed to be run next (notes/assumptions/17.md). -/
def State.latchPlanEntry (s : State) : State :=
  match s.planEntry with
  | some (src, num, den) => s.latch src num den
  | none => s

/-- The move of the agent that is picked (R3, R72, R270). -/
def nextMove (s : State) : Move :=
  match s.nextPick with
  | .host => hostMove s.takePick
  | .engine => engineMove s.takePick
  | .subframe => subframeMove s.takePick
  | .reset parCap => .done (.next (resetSequence parCap s.takePick))

end Sys2Proof.Machine
end

