-- ==== Sys2Proof/Machine/Step.lean ====
section
/-!
DEFINITION. One step of the block: the picked agent's micro-step. And the placing of a table row's word where that step
fetches it.
-/

namespace Sys2Proof.Machine

/-- One step: the instruction the picked agent fetches is run, or its other micro-step is made. -/
def step (s : State) : Host.Outcome State Fault Refusal :=
  match nextMove s with
  | .run i t => exec i t
  | .done r => r

/-- The state with a table row's word placed where the next step fetches it (notes/assumptions/17.md). A `PHASE` code goes
into `PHASE` of a running engine which, past FETCH, has latched the entry of its plan; a plan entry goes into the plan at `STEP`, the
engine running and about to FETCH; a command word goes to the head of the host's words, the port free. In each case the
agent that fetches it is picked next. -/
def State.withFetchWord (s : State) (nbits w : Nat) : State :=
  if nbits ≤ 8 then
    let t := if w ≤ 1 then s else s.latchPlanEntry
    { t with env := { s.env with picks := .engine :: s.env.picks }, run := true, phase := BitVec.ofNat 3 w }
  else if nbits ≤ 16 then
    let entry := BitVec.ofNat 16 w
    let plans :=
      if s.gs then { s.cfg with planGs := placeEntry s.cfg.planGs s.clippedStep.toNat entry }
      else { s.cfg with planPlain := placeEntry s.cfg.planPlain s.clippedStep.toNat entry }
    { s with
      cfg := plans
      env := { s.env with picks := .subframe :: s.env.picks }
      run := true
      phase := phaseFetch }
  else
    { s with
      env := { s.env with picks := .host :: s.env.picks, words := BitVec.ofNat 32 w :: s.env.words }
      hop := .none }

end Sys2Proof.Machine
end

