-- ==== Sys2Proof/Safety.lean ====
section
/-!
DEFINITION. What claims are stated with: a well-formed configuration (R6 to R12, U12 c), the machine's invariant, pixels,
freshness of Combined (R33), the display shadow's two protocol states (R37, R147), the end of a run (R14), and lit time
(R174).
-/

namespace Sys2Proof

/-- The plan entries of a plan as numbers `(src, num, den)`, when every word is a well-formed entry (R8, R110). -/
def planFractions : List (BitVec 16) → Option (List (Buf × Nat × Nat))
  | [] => some []
  | w :: rest =>
    match decodePlanEntry w, planFractions rest with
    | .ok (.showEntry src num den), some more => some ((src, num.toNat, den.toNat) :: more)
    | _, _ => none

/-- The sum of fractions as one fraction `(p, q)`, not reduced. -/
def fractionSum : List (Buf × Nat × Nat) → Nat × Nat
  | [] => (0, 1)
  | (_, num, den) :: rest =>
    let (p, q) := fractionSum rest
    (num * q + p * den, den * q)

/-- R8: "length 1 to 3; `1 <= num <= den <= 127`; the fractions of one plan sum to exactly 1". -/
def planWellFormed (plan : List (BitVec 16)) : Bool :=
  match planFractions plan with
  | none => false
  | some fs => decide (1 ≤ plan.length) && decide (plan.length ≤ 3) && (fractionSum fs).1 == (fractionSum fs).2

/-- The operand of a row count is one byte (R111: it "must fit one byte"). -/
def MuxOperand.fits : MuxOperand → Nat → Bool
  | .rowsMinus offset, rows => decide (offset ≤ rows) && decide (rows - offset < 256)
  | .table operands, rows => decide (1 ≤ rows) && decide (rows ≤ operands.length)

/-- The constraints of R6 to R12 and R111 on a configuration; an ill-formed one is refused (U12 c). -/
structure Config.WellFormed (c : Config) : Prop where
  /-- R6 -/
  height : c.h % 8 = 0 ∧ 8 ≤ c.h ∧ c.h ≤ 256
  /-- R6 -/
  width : 1 ≤ c.w ∧ c.w ≤ 256
  /-- R111 -/
  muxRows : 1 ≤ c.parkRows ∧ c.parkRows ≤ 256 ∧ c.unparkRows ≤ 256
  /-- R111: the operands of the two row counts that the block sets -/
  muxOperands : c.muxOperand.fits c.parkRows = true ∧ c.muxOperand.fits c.unparkRows = true
  /-- R8 -/
  plans : planWellFormed c.planGs = true ∧ planWellFormed c.planPlain = true
  /-- R9 -/
  rowRate : 0 < c.rowsPerCycle
  /-- R10 -/
  steps : 0 < c.coarseStep ∧ 0 < c.fineStep
  /-- R10, and the 32 bits of `CYCLE` (R29) -/
  cycleBounds : 1 ≤ c.cycleMin ∧ c.cycleMin ≤ c.defaultCycle ∧ c.defaultCycle ≤ c.cycleMax ∧ c.cycleMax < 2 ^ 32
  /-- R11: a permutation of the four levels -/
  lut : c.resolveLut.toList.Nodup

end Sys2Proof

namespace Sys2Proof.Machine

/-- The phases inside a sub-frame step, after its FETCH: PARK to XWAIT (R26, R160). -/
def State.insideStep (s : State) : Bool := 2 ≤ s.phase.toNat && s.phase.toNat ≤ 6

/-- What every reachable state of a well-formed configuration satisfies. -/
structure Invariant (s : State) : Prop where
  /-- the configuration is well-formed -/
  config : s.cfg.WellFormed
  /-- the memory is canonical -/
  memory : s.mem.wf
  /-- no byte is listed at an address that does not exist (R61) -/
  addresses : ∀ c ∈ s.mem, c.1 < 3 * s.cfg.frameBytes
  /-- R25: the value 3 never occurs -/
  stepLegal : s.stepIx ≠ 3#2
  /-- R26: the value 7 never occurs -/
  phaseLegal : s.phase ≠ 7#3
  /-- R26: `PHASE = IDLE` exactly when `RUN = 0` -/
  idle : s.phase = phaseIdle ↔ s.run = false
  /-- R27: the value 3 is no buffer -/
  srcLegal : s.curSrc ≠ 3#2
  /-- R27, R110: inside a sub-frame step the latched fraction is well-formed -/
  latched : s.insideStep = true → fractionWellFormed s.curNum s.curDen = true
  /-- R28: `LIDX = len(TX)` -/
  loadIndex : s.lidx = s.tx.length
  /-- R28: `LIDX` is an integer 0 to `N` -/
  loadBound : s.lidx ≤ s.cfg.frameBytes
  /-- R28: outside the LOAD phase `LIDX = 0` and `TX` is empty -/
  loadOnly : s.phase ≠ phaseLoad → s.lidx = 0
  /-- R29: `CYCLE_MIN <= CYCLE <= CYCLE_MAX` -/
  cycle : s.cfg.cycleMin ≤ s.cycle.toNat ∧ s.cycle.toNat ≤ s.cfg.cycleMax
  /-- R23, R34: a stop is pending only while the engine runs and the host waits for it -/
  stopPending : s.stopReq = true → s.run = true ∧ s.hop = .stopwait
  /-- R211, R212: the host waits only for a running engine with a stop pending, or for its own join step -/
  stopWaiting : s.hop = .stopwait → s.run = true → s.stopReq = true
  /-- R233: with `CAPERR = 1` no engine runs and no operation is in progress -/
  noEngine : s.capErr = true → s.run = false ∧ s.hop = .none
  /-- R34, R121, R122: the next index of a FILL or DERIVE in progress is below `N` -/
  hopIndex : (∀ layer v i, s.hop = .fill layer v i → i < s.cfg.frameBytes) ∧
    (∀ i, s.hop = .derive i → i < s.cfg.frameBytes)
  /-- R147: from a good PARK to the UNPARK the display is parked -/
  parked : s.phase = phasePwait ∨ s.phase = phaseLoad ∨ s.phase = phaseUnpark → s.dmux = some s.cfg.parkRows
  /-- R147, R149: during the exposure wait the display is unparked -/
  exposed : s.phase = phaseXwait → s.dmux = some s.cfg.unparkRows
  /-- R147, R149: from a good LOAD to the end of the step the display's frame is known -/
  loaded : s.phase = phaseUnpark ∨ s.phase = phaseXwait → s.dframe.isSome = true
  /-- R37, R143: a known frame has exactly `N` bytes -/
  frame : ∀ f, s.dframe = some f → f.length = s.cfg.frameBytes

/-- Byte `i` of a buffer: `BUF[b][i]` of 00_scope.md section 5. -/
def State.bufByte (s : State) (buf : Buf) (i : Nat) : Byte := s.mem.byteAt (bufAddr s.cfg (bufNumber buf) i)

/-- The pixel at column `x`, row `y` of a buffer (R62). -/
def State.pixel (s : State) (buf : Buf) (x y : Nat) : Bool :=
  (s.bufByte buf (pixelIndex s.cfg x y)).getLsbD (y % 8)

/-- The GrayscaleFrame equation `C[i] = A[i] & B[i]` for all `i < n`; with `n = N` the whole of R33. -/
def State.freshBelow (s : State) (n : Nat) : Prop := ∀ i, i < n → s.bufByte .c i = s.bufByte .a i &&& s.bufByte .b i

/-- The equation of R33. -/
def State.fresh (s : State) : Prop := s.freshBelow s.cfg.frameBytes

/-- The controller is parked (R37). -/
def State.parked (s : State) : Prop := s.dmux = some s.cfg.parkRows

/-- The controller is unparked (R37). -/
def State.unparked (s : State) : Prop := s.dmux = some s.cfg.unparkRows

/-- The frame a LOAD of a buffer that nobody writes meanwhile sends: its `N` bytes, index 0 first (R63 c, R142). -/
def State.frameOf (s : State) (buf : Buf) : List Byte := (List.range s.cfg.frameBytes).map (s.bufByte buf)

/-- A run of a finite host command list is over: no word is left, none is in progress, the engine is stopped (R14). A FILL,
DERIVE or STOP that a reset cut off never gets a response (R270 only frees the port), and the spec does not say whether
such a run is over: here it is. DESIGN CHOICE, unsafe: notes/assumptions/24.md. -/
def State.over (s : State) : Prop := s.env.words = [] ∧ s.hop = .none ∧ s.run = false

/-- `n` picks of one agent in a row, before whatever picks follow. -/
def State.scheduling (s : State) (p : Pick) (n : Nat) : State :=
  { s with env := { s.env with picks := List.replicate n p ++ s.env.picks } }

/-- `n` steps, stopping at the first fault or refusal. -/
def runSteps : Nat → State → Result
  | 0, s => .next s
  | n + 1, s =>
    match step s with
    | .next t => runSteps n t
    | .fault r => .fault r
    | .refused r => .refused r

/-- Two answers that agree but for what `view` hides of the next state. -/
def agreeUpTo (view : State → State) : Result → Result → Prop
  | .next s, .next t => view s = view t
  | .fault r, .fault q => r = q
  | .refused r, .refused q => r = q
  | _, _ => False

/-- The state without what only an observer sees: TRACE, the display shadow, the responses (R36, R37, R14). -/
def State.hideObserver (s : State) : State := { s with trace := [], dmux := none, dframe := none, resp := [] }

/-- An event without the duration of a wait. -/
def hideDuration : Event → Event
  | .wait _ => .wait 0
  | .cmd bytes => .cmd bytes
  | .data bytes => .data bytes
  | .err p => .err p

/-- The state without `CYCLE` and without the durations it gave to waits (R151). -/
def State.hideCycle (s : State) : State := { s with cycle := 0#32, trace := s.trace.map hideDuration }

/-- A pick of the engine: one micro-step or a whole sub-frame step. -/
def enginePick : Pick → Bool
  | .engine => true
  | .subframe => true
  | .host => false
  | .reset _ => false

/-- While a DERIVE is in progress, `C = A & B` holds below its next index (R122). -/
def State.deriveProgress (s : State) : Prop := ∀ i, s.hop = .derive i → s.freshBelow i

/-- The buffer of a layer (R107). -/
def layerBuf : Layer → Buf
  | .a => .a
  | .b => .b

/-- The host commands of R98: the instructions the command port takes. -/
def hostCommand : Instr → Bool
  | .showEntry _ _ _ => false
  | .fetch => false
  | .park => false
  | .pwait => false
  | .load => false
  | .unpark => false
  | .xwait => false
  | .start => true
  | .stop => true
  | .gson => true
  | .gsoff => true
  | .rdcsr _ => true
  | .getcyc => true
  | .adjc _ => true
  | .adjf _ => true
  | .commit => true
  | .reload => true
  | .setpx _ _ _ _ => true
  | .fill _ _ => true
  | .derive => true
  | .resolve _ _ => true
  | .wrbyte _ _ _ => true
  | .rdbyte _ _ => true

/-- Whether a step's source is lit at a pixel with layer bits `(a, b)` and a fresh Combined (R174). -/
def litBy (a b : Bool) : Buf → Bool
  | .a => a
  | .b => b
  | .c => a && b

/-- The lit fraction of one cycle of a plan at a pixel with layer bits `(a, b)`, as `(p, q)`, not reduced (R174). -/
def litFraction (a b : Bool) : List (Buf × Nat × Nat) → Nat × Nat
  | [] => (0, 1)
  | (src, num, den) :: rest =>
    let (p, q) := litFraction a b rest
    ((if litBy a b src then num * q else 0) + p * den, den * q)

end Sys2Proof.Machine
end

