-- ==== Sys2Proof/Certificates/Slice0/Obligations.lean ====
section
/-!
DEFINITION. The statements for the provers. A response is written out as the pair of R103: code 0 OK, 1 ILLEGAL,
2 CAPERR, 3 PRECOND, 4 STORAGE (R104).
-/

open Sys2Proof
open Sys2Proof.Machine

/-! ### Encoding -/

/-- Every well-formed instruction, with every operand, is read back from its own word (R90 to R98, R105, R107 to R110). -/
def Obligations.DecodeReadsBackEveryEncoding : Prop :=
  ∀ i : Instr, i.wellFormed = true → decode (encode i) = .ok i

/-- Every word has at most one spelling of an instruction: what decodes is well-formed and encodes to that very word
(R102, R106). -/
def Obligations.DecodedWordsAreCanonical : Prop :=
  ∀ (c : Code) (i : Instr), decode c = .ok i → i.wellFormed = true ∧ encode i = c

/-- R99: a reserved opcode spells no command, and the port answers ILLEGAL and changes nothing else. The words 0 and
0xFFFFFFFF are such words. -/
def Obligations.ReservedOpcodeIsIllegal : Prop :=
  decodeCommand 0x00000000#32 = .error .reservedOpcode ∧ decodeCommand 0xFFFFFFFF#32 = .error .reservedOpcode ∧
  ∀ (s : State) (cmd : Word) (rest : List Word),
    cmd.toNat / 2 ^ 24 ∉ [0x01, 0x02, 0x03, 0x04, 0x08, 0x10, 0x11, 0x12, 0x13, 0x14, 0x20, 0x21, 0x22, 0x23, 0x24, 0x25] →
    s.nextPick = .host → s.hop = .none → s.env.words = cmd :: rest →
      decodeCommand cmd = .error .reservedOpcode ∧
      step s = .next { s.takePick with
        env := { s.takePick.env with words := rest }, resp := s.resp ++ [⟨1#8, 0#32⟩] }

/-- R100: a non-zero reserved field, and R101: `buf = 3` or `csr >= 3`, is refused whatever the other bits are, and every
word that decoding refuses is answered ILLEGAL, whatever `CAPERR` is, and changes nothing else. -/
def Obligations.ReservedFieldsAreRejected : Prop :=
  (∀ cmd : Word,
    (cmd.toNat / 2 ^ 24 ∈ [0x01, 0x02, 0x03, 0x04, 0x10, 0x13, 0x14, 0x22] → cmd.toNat % 2 ^ 24 ≠ 0 →
      decodeCommand cmd = .error .reservedField) ∧
    (cmd.toNat / 2 ^ 24 ∈ [0x11, 0x12] → cmd.toNat / 2 ^ 16 % 2 ^ 8 ≠ 0 → decodeCommand cmd = .error .reservedField) ∧
    (cmd.toNat / 2 ^ 24 ∈ [0x20, 0x21] → cmd.toNat / 2 ^ 18 % 2 ^ 6 ≠ 0 → decodeCommand cmd = .error .reservedField) ∧
    (cmd.toNat / 2 ^ 24 = 0x21 → cmd.toNat % 2 ^ 16 ≠ 0 → decodeCommand cmd = .error .reservedField) ∧
    (cmd.toNat / 2 ^ 24 = 0x23 → cmd.toNat / 2 ^ 2 % 2 ^ 22 ≠ 0 → decodeCommand cmd = .error .reservedField) ∧
    (cmd.toNat / 2 ^ 24 = 0x25 → cmd.toNat % 2 ^ 8 ≠ 0 → decodeCommand cmd = .error .reservedField) ∧
    (cmd.toNat / 2 ^ 24 = 0x08 → cmd.toNat / 2 ^ 8 % 2 ^ 16 ≠ 0 → decodeCommand cmd = .error .reservedField) ∧
    (cmd.toNat / 2 ^ 24 = 0x24 → cmd.toNat / 2 ^ 22 % 4 = 3 → decodeCommand cmd = .error .reservedValue) ∧
    (cmd.toNat / 2 ^ 24 = 0x25 → cmd.toNat % 2 ^ 8 = 0 → cmd.toNat / 2 ^ 22 % 4 = 3 →
      decodeCommand cmd = .error .reservedValue) ∧
    (cmd.toNat / 2 ^ 24 = 0x08 → cmd.toNat / 2 ^ 8 % 2 ^ 16 = 0 → 3 ≤ cmd.toNat % 2 ^ 8 →
      decodeCommand cmd = .error .reservedValue)) ∧
  (∀ (s : State) (cmd : Word) (rest : List Word) (why : Reject),
    s.nextPick = .host → s.hop = .none → s.env.words = cmd :: rest → decodeCommand cmd = .error why →
      step s = .next { s.takePick with
        env := { s.takePick.env with words := rest }, resp := s.resp ++ [⟨1#8, 0#32⟩] })

/-- Words of the spec's own examples decode to the instructions they stand for (R110, R120, R121, R123 to R125, R191,
R192). -/
def Obligations.ExampleWordsDecode : Prop :=
  decodeCommand 0x2001030A#32 = .ok (.setpx .a 3#8 10#8 true) ∧
  decodeCommand 0x21030000#32 = .ok (.fill .b true) ∧
  decodeCommand 0x23000002#32 = .ok (.resolve true false) ∧
  decodeCommand 0x24416780#32 = .ok (.wrbyte .b 359#14 0x80#8) ∧
  decodeCommand 0x25804B00#32 = .ok (.rdbyte .c 75#14) ∧
  decodeCommand 0x1100FFFF#32 = .ok (.adjc (-1)) ∧
  decodePlanEntry 0x4084#16 = .ok (.showEntry .b 1#7 4#7) ∧
  decodePhase 4#3 = .ok .load

/-! ### The step -/

/-- A step runs the decoded instruction: the host's next command word on a free port, the micro-operation that `PHASE`
names for a running engine, the SHOW word of the plan at a FETCH for a pick of a whole sub-frame step (R43, R90, R160).
What the step adds is the use of the pick and, for the host, of the word. That a pick can take a whole sub-frame step is
the model's choice: notes/assumptions/3.md. -/
def Obligations.StepRunsTheDecodedInstruction : Prop :=
  (∀ (s : State) (w : Word) (rest : List Word) (i : Instr),
    s.nextPick = .host → s.hop = .none → s.env.words = w :: rest → decodeCommand w = .ok i →
      step s = exec i { s.takePick with env := { s.takePick.env with words := rest } }) ∧
  (∀ (s : State) (i : Instr),
    s.nextPick = .engine → s.run = true → decodePhase s.phase = .ok i → step s = exec i s.takePick) ∧
  (∀ (s : State) (src : Buf) (num den : BitVec 7),
    s.nextPick = .subframe → s.run = true → s.phase = 1#3 → s.planEntry = some (src, num, den) →
      step s = exec (.showEntry src num den) s.takePick)

/-! ### Lifecycle -/

/-- R210, START: launches the engine at `(0, FETCH)`; a no-op while RUNNING; refused with CAPERR. -/
def Obligations.StartLaunchesTheEngine : Prop :=
  decodeCommand 0x01000000#32 = .ok .start ∧
  ∀ s : State,
    (s.capErr = true → exec .start s = .next { s with resp := s.resp ++ [⟨2#8, 0#32⟩] }) ∧
    (s.capErr = false → s.run = true → exec .start s = .next { s with resp := s.resp ++ [⟨0#8, 0#32⟩] }) ∧
    (s.capErr = false → s.run = false →
      exec .start s = .next { s with
        stopReq := false, stepIx := 0#2, phase := 1#3, run := true, resp := s.resp ++ [⟨0#8, 0#32⟩] })

/-- R211, R212, STOP: refused with CAPERR; a no-op while STOPPED, else `STOPREQ <- 1` and the port held with no response
yet (CAPERR: R233); with the port held by STOP the host answers when `RUN = 0` and has no step while `RUN = 1`. That a
picked host without a step only uses up its pick is the model's choice: notes/assumptions/2.md. -/
def Obligations.StopRequestsAndJoinsTheExit : Prop :=
  decodeCommand 0x02000000#32 = .ok .stop ∧
  (∀ s : State,
    (s.capErr = true → exec .stop s = .next { s with resp := s.resp ++ [⟨2#8, 0#32⟩] }) ∧
    (s.capErr = false → s.run = false → exec .stop s = .next { s with resp := s.resp ++ [⟨0#8, 0#32⟩] }) ∧
    (s.capErr = false → s.run = true → exec .stop s = .next { s with stopReq := true, hop := .stopwait })) ∧
  (∀ s : State, s.nextPick = .host → s.hop = .stopwait →
    (s.run = false →
      step s = .next { s.takePick with hop := .none, resp := s.resp ++ [⟨0#8, 0#32⟩] }) ∧
    (s.run = true → step s = .next s.takePick))

/-- R213, R214, GSON and GSOFF: `GS` is written in either lifecycle state, and nothing else but the response. -/
def Obligations.GrayscaleToggles : Prop :=
  decodeCommand 0x03000000#32 = .ok .gson ∧ decodeCommand 0x04000000#32 = .ok .gsoff ∧
  ∀ s : State, s.capErr = false →
    exec .gson s = .next { s with gs := true, resp := s.resp ++ [⟨0#8, 0#32⟩] } ∧
    exec .gsoff s = .next { s with gs := false, resp := s.resp ++ [⟨0#8, 0#32⟩] }

/-- R215, RDCSR: the value of the register, in every state, `CAPERR = 1` included, and no side effect. -/
def Obligations.RdcsrReadsEveryRegister : Prop :=
  ∀ s : State,
    exec (.rdcsr .status) s = .next { s with resp := s.resp ++ [⟨0#8, s.status⟩] } ∧
    exec (.rdcsr .cycle) s = .next { s with resp := s.resp ++ [⟨0#8, s.cycle⟩] } ∧
    exec (.rdcsr .terrcnt) s = .next { s with resp := s.resp ++ [⟨0#8, s.terrCnt⟩] }

/-- R38: the fields of STATUS, bit by bit, and zero above bit 11. -/
def Obligations.StatusFields : Prop :=
  (∀ s : State,
    s.status.getLsbD 0 = s.run ∧ s.status.getLsbD 1 = s.gs ∧ s.status.getLsbD 2 = s.stopReq ∧
    s.status.getLsbD 3 = s.capErr ∧ (s.status.getLsbD 4 = true ↔ s.terrCnt ≠ 0#32) ∧
    s.status.extractLsb' 5 2 = s.stepIx ∧ s.status.extractLsb' 7 3 = s.phase ∧
    s.status.extractLsb' 10 2 = s.curSrc ∧ s.status.extractLsb' 12 20 = 0#20) ∧
  State.reset.status = 0x00000002#32 ∧ ∀ s : State, (resetSequence false s).status = 0x0000000A#32

/-! ### Calibration -/

/-- R190, GETCYC: answers `CYCLE`, the value `RDCSR 1` answers, with no side effect. -/
def Obligations.GetcycAnswersTheCycle : Prop :=
  decodeCommand 0x10000000#32 = .ok .getcyc ∧
  ∀ s : State, s.capErr = false →
    exec .getcyc s = .next { s with resp := s.resp ++ [⟨0#8, s.cycle⟩] } ∧ exec (.rdcsr .cycle) s = exec .getcyc s

/-- R191, R192, ADJC and ADJF: the exact sum, clamped into `CYCLE_MIN .. CYCLE_MAX`, becomes `CYCLE` and is answered;
nothing else changes, in either lifecycle state. -/
def Obligations.AdjustmentsClampTheExactSum : Prop :=
  ∀ (s : State) (delta : BitVec 16), s.capErr = false → s.cfg.cycleMin ≤ s.cfg.cycleMax → s.cfg.cycleMax < 2 ^ 32 →
    (∃ v : Word, exec (.adjc delta) s = .next { s with cycle := v, resp := s.resp ++ [⟨0#8, v⟩] } ∧
      (v.toNat : Int) = max (s.cfg.cycleMin : Int)
        (min (s.cfg.cycleMax : Int) (s.cycle.toNat + delta.toInt * s.cfg.coarseStep))) ∧
    (∃ v : Word, exec (.adjf delta) s = .next { s with cycle := v, resp := s.resp ++ [⟨0#8, v⟩] } ∧
      (v.toNat : Int) = max (s.cfg.cycleMin : Int)
        (min (s.cfg.cycleMax : Int) (s.cycle.toNat + delta.toInt * s.cfg.fineStep)))

/-- R193: an adjustment saturates the exact sum, so it moves `CYCLE` in the direction asked, strictly but for a bound,
never to zero, and exactly while no bound is met; three coarse steps up and one fine step down from the default give
exactly 27699. -/
def Obligations.AdjustmentsAreMonotone : Prop :=
  (∀ (s t : State) (delta : BitVec 16) (size : Nat) (i : Instr), s.cfg.WellFormed → s.capErr = false →
    s.cfg.cycleMin ≤ s.cycle.toNat → s.cycle.toNat ≤ s.cfg.cycleMax →
    (i = .adjc delta ∧ size = s.cfg.coarseStep) ∨ (i = .adjf delta ∧ size = s.cfg.fineStep) →
    exec i s = .next t →
      (0 < delta.toInt → s.cycle.toNat < t.cycle.toNat ∨ s.cycle.toNat = s.cfg.cycleMax ∧ t.cycle = s.cycle) ∧
      (delta.toInt < 0 → t.cycle.toNat < s.cycle.toNat ∨ s.cycle.toNat = s.cfg.cycleMin ∧ t.cycle = s.cycle) ∧
      (delta.toInt = 0 → t.cycle = s.cycle) ∧ 0 < t.cycle.toNat ∧
      (t.cycle.toNat : Int) = max (s.cfg.cycleMin : Int) (min (s.cfg.cycleMax : Int) (s.cycle.toNat + delta.toInt * size)) ∧
      ((s.cfg.cycleMin : Int) ≤ s.cycle.toNat + delta.toInt * size →
        s.cycle.toNat + delta.toInt * size ≤ (s.cfg.cycleMax : Int) →
        (t.cycle.toNat : Int) = s.cycle.toNat + delta.toInt * size)) ∧
  (∀ s : State, s.cfg = Config.default → s.capErr = false → s.cycle = 27400#32 →
    ∃ t1 t2 t3 t4, exec (.adjc 1#16) s = .next t1 ∧ exec (.adjc 1#16) t1 = .next t2 ∧
      exec (.adjc 1#16) t2 = .next t3 ∧ exec (.adjf (-1)) t3 = .next t4 ∧ t4.cycle = 27699#32)

/-- R194, COMMIT: refused while RUNNING with no storage access; else one write, after which the store holds `CYCLE`, or
arbitrary content with STORAGE answered; `CYCLE` never changes. -/
def Obligations.CommitWritesTheStore : Prop :=
  decodeCommand 0x13000000#32 = .ok .commit ∧
  ∀ s : State, s.capErr = false →
    (s.run = true → exec .commit s = .next { s with resp := s.resp ++ [⟨3#8, 0#32⟩] }) ∧
    (s.run = false → s.nextNvWrite = .ok →
      exec .commit s = .next { s.takeNvWrite with
        nvValid := true, nvCycle := s.cycle, resp := s.resp ++ [⟨0#8, s.cycle⟩] }) ∧
    (s.run = false → ∀ valid value, s.nextNvWrite = .fail valid value →
      exec .commit s = .next { s.takeNvWrite with
        nvValid := valid, nvCycle := value, resp := s.resp ++ [⟨4#8, 0#32⟩] })

/-- R195, R196, RELOAD: refused while RUNNING with no storage access; else `CYCLE` becomes the stored value when the read
succeeds and the value is valid and in range, the default otherwise, and is answered; never STORAGE. -/
def Obligations.ReloadLoadsTheCycle : Prop :=
  decodeCommand 0x14000000#32 = .ok .reload ∧
  ∀ s : State, s.capErr = false →
    (s.run = true → exec .reload s = .next { s with resp := s.resp ++ [⟨3#8, 0#32⟩] }) ∧
    (s.run = false → s.nextNvRead = .ok → s.nvValid = true → s.cfg.cycleMin ≤ s.nvCycle.toNat →
      s.nvCycle.toNat ≤ s.cfg.cycleMax →
      exec .reload s = .next { s.takeNvRead with cycle := s.nvCycle, resp := s.resp ++ [⟨0#8, s.nvCycle⟩] }) ∧
    (s.run = false →
      s.nextNvRead = .fail ∨ s.nvValid = false ∨ s.nvCycle.toNat < s.cfg.cycleMin ∨ s.cfg.cycleMax < s.nvCycle.toNat →
      exec .reload s = .next { s.takeNvRead with
        cycle := BitVec.ofNat 32 s.cfg.defaultCycle,
        resp := s.resp ++ [⟨0#8, BitVec.ofNat 32 s.cfg.defaultCycle⟩] })

/-- What COMMIT saved, a reset loads and a RELOAD after it answers, when the storage accesses succeed (R195). -/
def Obligations.CommittedCycleSurvivesReset : Prop :=
  ∀ (s t u : State) (strap : Bool), Invariant s → s.capErr = false → s.run = false → s.nextNvWrite = .ok →
    exec .commit s = .next t → t.nextNvRead = .ok → u = resetSequence strap t →
      u.cycle = s.cycle ∧
      (strap = true → u.nextNvRead = .ok →
        exec .reload u = .next { u.takeNvRead with resp := u.resp ++ [⟨0#8, s.cycle⟩] })

/-- R197: the store changes only in a step that runs COMMIT; no adjustment, no START, no STOP and no reset writes it. -/
def Obligations.OnlyCommitWritesTheStore : Prop :=
  ∀ s t : State, step s = .next t → ¬(t.nvValid = s.nvValid ∧ t.nvCycle = s.nvCycle) →
    ∃ u, nextMove s = .run .commit u

/-! ### Buffers -/

/-- A byte written reads as written, every other byte as before, and the memory stays canonical (R66, R72). -/
def Obligations.ReadAfterWrite : Prop :=
  ∀ (s t : State) (a : Nat) (v : Byte), s.mem.wf → s.memWrite a v = some t →
    t.memRead a = some v ∧ (∀ b, b ≠ a → t.memRead b = s.memRead b) ∧ t.mem.wf ∧ { t with mem := s.mem } = s

/-- R120, SETPX: bounds refused with PRECOND; else the one pixel is set or cleared by a read-modify-write of its byte,
and every other byte, every other pixel and all else but the response stay as they were. -/
def Obligations.SetpxChangesOnePixel : Prop :=
  decodeCommand 0x2001030A#32 = .ok (.setpx .a 3#8 10#8 true) ∧
  ∀ (s : State) (layer : Layer) (x y : BitVec 8) (bit : Bool), s.capErr = false →
    (s.cfg.w ≤ x.toNat ∨ s.cfg.h ≤ y.toNat →
      exec (.setpx layer x y bit) s = .next { s with resp := s.resp ++ [⟨3#8, 0#32⟩] }) ∧
    (x.toNat < s.cfg.w → y.toNat < s.cfg.h → s.cfg.h % 8 = 0 → s.mem.wf →
      ∃ t, exec (.setpx layer x y bit) s = .next t ∧
        { t with mem := s.mem } = { s with resp := s.resp ++ [⟨0#8, 0#32⟩] } ∧
        (let a := bufAddr s.cfg (layerNumber layer) (pixelIndex s.cfg x.toNat y.toNat)
         let m := 1#8 <<< (y.toNat % 8)
         t.memRead a = (s.memRead a).map (fun old => if bit then old ||| m else old &&& ~~~m) ∧
         ∀ b, b ≠ a → t.memRead b = s.memRead b) ∧
        t.pixel (layerBuf layer) x.toNat y.toNat = bit ∧
        ∀ (buf : Buf) (x' y' : Nat), x' < s.cfg.w → y' < s.cfg.h →
          ¬(buf = layerBuf layer ∧ x' = x.toNat ∧ y' = y.toNat) → t.pixel buf x' y' = s.pixel buf x' y')

/-- FILL, one micro-step at a time (R121): accepting the word writes byte 0 of the layer, a continuation at index `i` byte
`i`; the port is held at the next index, or, after the last byte, the command is answered; nothing else changes. That the
word is accepted in the first micro-step is the model's reading: notes/assumptions/11.md. -/
def Obligations.FillWritesOneByteAMicroStep : Prop :=
  (∀ (s : State) (layer : Layer) (bit : Bool), s.capErr = false → 0 < s.cfg.frameBytes → s.mem.wf →
    ∃ t, exec (.fill layer bit) s = .next t ∧
      (let v := if bit then 0xFF#8 else 0x00#8
       let a := bufAddr s.cfg (layerNumber layer) 0
       t.memRead a = some v ∧ (∀ b, b ≠ a → t.memRead b = s.memRead b) ∧
       (1 < s.cfg.frameBytes → { t with mem := s.mem } = { s with hop := .fill layer v 1 }) ∧
       (s.cfg.frameBytes = 1 → { t with mem := s.mem } = { s with hop := .none, resp := s.resp ++ [⟨0#8, 0#32⟩] }))) ∧
  (∀ (s : State) (layer : Layer) (v : Byte) (i : Nat), s.nextPick = .host → s.hop = .fill layer v i →
    i < s.cfg.frameBytes → s.mem.wf →
    ∃ t, step s = .next t ∧
      (let a := bufAddr s.cfg (layerNumber layer) i
       t.memRead a = some v ∧ (∀ b, b ≠ a → t.memRead b = s.memRead b) ∧
       (i + 1 < s.cfg.frameBytes → { t with mem := s.mem } = { s.takePick with hop := .fill layer v (i + 1) }) ∧
       (i + 1 = s.cfg.frameBytes →
         { t with mem := s.mem } = { s.takePick with hop := .none, resp := s.resp ++ [⟨0#8, 0#32⟩] })))

/-- R121, FILL: with no engine step between, exactly `N` host micro-steps set every pixel of the layer, answer `(OK, 0)`
and change nothing else. -/
def Obligations.FillCompletesInNMicroSteps : Prop :=
  ∀ (s : State) (layer : Layer) (bit : Bool) (w : Word) (rest : List Word),
    s.capErr = false → s.hop = .none → 0 < s.cfg.frameBytes → s.mem.wf →
    s.env.words = w :: rest → decodeCommand w = .ok (.fill layer bit) →
    ∃ t, runSteps s.cfg.frameBytes (s.scheduling .host s.cfg.frameBytes) = .next t ∧
      (∀ i, i < s.cfg.frameBytes → t.bufByte (layerBuf layer) i = if bit then 0xFF#8 else 0x00#8) ∧
      (∀ a, ¬(layerNumber layer * s.cfg.frameBytes ≤ a ∧ a < (layerNumber layer + 1) * s.cfg.frameBytes) →
        t.memRead a = s.memRead a) ∧
      { t with mem := s.mem } =
        { s with env := { s.env with words := rest }, resp := s.resp ++ [⟨0#8, 0#32⟩] }

/-- DERIVE, one micro-step at a time (R122): accepting the word makes `C[0] <- A[0] & B[0]`, a continuation at index `i` the
same of index `i`; the port is held at the next index, or, after the last, the command is answered; nothing else changes.
That the word is accepted in the first micro-step is the model's reading: notes/assumptions/11.md. -/
def Obligations.DeriveComputesOneByteAMicroStep : Prop :=
  (∀ s : State, s.capErr = false → 0 < s.cfg.frameBytes → s.mem.wf →
    ∃ t, exec .derive s = .next t ∧
      t.memRead (bufAddr s.cfg 2 0) = some (s.bufByte .a 0 &&& s.bufByte .b 0) ∧
      (∀ b, b ≠ bufAddr s.cfg 2 0 → t.memRead b = s.memRead b) ∧
      (1 < s.cfg.frameBytes → { t with mem := s.mem } = { s with hop := .derive 1 }) ∧
      (s.cfg.frameBytes = 1 → { t with mem := s.mem } = { s with hop := .none, resp := s.resp ++ [⟨0#8, 0#32⟩] })) ∧
  (∀ (s : State) (i : Nat), s.nextPick = .host → s.hop = .derive i → i < s.cfg.frameBytes → s.mem.wf →
    ∃ t, step s = .next t ∧
      t.memRead (bufAddr s.cfg 2 i) = some (s.bufByte .a i &&& s.bufByte .b i) ∧
      (∀ b, b ≠ bufAddr s.cfg 2 i → t.memRead b = s.memRead b) ∧
      (i + 1 < s.cfg.frameBytes → { t with mem := s.mem } = { s.takePick with hop := .derive (i + 1) }) ∧
      (i + 1 = s.cfg.frameBytes →
        { t with mem := s.mem } = { s.takePick with hop := .none, resp := s.resp ++ [⟨0#8, 0#32⟩] }))

/-- R122, DERIVE: with no engine step between, exactly `N` host micro-steps make `C[i] = A[i] & B[i]` for every `i`,
answer `(OK, 0)` and change nothing else. -/
def Obligations.DeriveCompletesInNMicroSteps : Prop :=
  decodeCommand 0x22000000#32 = .ok .derive ∧
  ∀ (s : State) (rest : List Word),
    s.capErr = false → s.hop = .none → 0 < s.cfg.frameBytes → s.mem.wf → s.env.words = 0x22000000#32 :: rest →
    ∃ t, runSteps s.cfg.frameBytes (s.scheduling .host s.cfg.frameBytes) = .next t ∧
      (∀ i, i < s.cfg.frameBytes → t.bufByte .c i = s.bufByte .a i &&& s.bufByte .b i) ∧
      (∀ a, ¬(2 * s.cfg.frameBytes ≤ a ∧ a < 3 * s.cfg.frameBytes) → t.memRead a = s.memRead a) ∧ t.fresh ∧
      { t with mem := s.mem } =
        { s with env := { s.env with words := rest }, resp := s.resp ++ [⟨0#8, 0#32⟩] }

/-- Whatever the engine does between its micro-steps, a DERIVE keeps `C = A & B` below its next index, and when it
completes the equation holds for the whole buffer (R122, R66, R68). -/
def Obligations.DeriveSurvivesInterleaving : Prop :=
  ∀ s t : State, Invariant s → s.deriveProgress → step s = .next t →
    t.deriveProgress ∧
    (∀ i, s.hop = .derive i → t.hop = .none → (∀ c, s.nextPick ≠ .reset c) → t.fresh)

/-- R123, RESOLVE: the table's entry at `2*bitA + bitB`, in every state with `CAPERR = 0`, in either lifecycle state, with no
side effect; under the default table the four pairs give 0, 1, 2, 3. -/
def Obligations.ResolveLooksUpTheTable : Prop :=
  decodeCommand 0x23000002#32 = .ok (.resolve true false) ∧
  (∀ (s : State) (bitA bitB : Bool), s.capErr = false →
    exec (.resolve bitA bitB) s = .next { s with
      resp := s.resp ++ [⟨0#8, grayCode (s.cfg.resolveLut.toList.getD (2 * bitA.toNat + bitB.toNat) .black)⟩] }) ∧
  (∀ (s : State) (bitA bitB : Bool), s.capErr = false → s.cfg.resolveLut = Config.default.resolveLut →
    exec (.resolve bitA bitB) s = .next { s with
      resp := s.resp ++ [⟨0#8, BitVec.ofNat 32 (2 * bitA.toNat + bitB.toNat)⟩] })

/-- R124, WRBYTE: C and an index at or above `N` refused with PRECOND; else the one byte of A or B is written, and
nothing else changes but the response. -/
def Obligations.WrbyteWritesOneByte : Prop :=
  decodeCommand 0x24416780#32 = .ok (.wrbyte .b 359#14 0x80#8) ∧
  ∀ (s : State) (buf : Buf) (index : BitVec 14) (value : Byte), s.capErr = false →
    (buf = .c ∨ s.cfg.frameBytes ≤ index.toNat →
      exec (.wrbyte buf index value) s = .next { s with resp := s.resp ++ [⟨3#8, 0#32⟩] }) ∧
    (buf ≠ .c → index.toNat < s.cfg.frameBytes → s.mem.wf →
      ∃ t, exec (.wrbyte buf index value) s = .next t ∧
        t.memRead (bufAddr s.cfg (bufNumber buf) index.toNat) = some value ∧
        (∀ b, b ≠ bufAddr s.cfg (bufNumber buf) index.toNat → t.memRead b = s.memRead b) ∧
        { t with mem := s.mem } = { s with resp := s.resp ++ [⟨0#8, 0#32⟩] })

/-- R125, RDBYTE: an index at or above `N` refused with PRECOND; else the byte of A, B or C, zero-extended; no side
effect. -/
def Obligations.RdbyteReadsOneByte : Prop :=
  decodeCommand 0x25804B00#32 = .ok (.rdbyte .c 75#14) ∧
  ∀ (s : State) (buf : Buf) (index : BitVec 14), s.capErr = false →
    (s.cfg.frameBytes ≤ index.toNat →
      exec (.rdbyte buf index) s = .next { s with resp := s.resp ++ [⟨3#8, 0#32⟩] }) ∧
    (index.toNat < s.cfg.frameBytes →
      ∃ v : Byte, s.memRead (bufNumber buf * s.cfg.frameBytes + index.toNat) = some v ∧
        exec (.rdbyte buf index) s = .next { s with resp := s.resp ++ [⟨0#8, v.setWidth 32⟩] })

/-- The commands that store to no buffer leave every byte of BUF as it was, whatever they answer (R65, R68). -/
def Obligations.NonStoringCommandsKeepEveryByte : Prop :=
  ∀ (i : Instr) (s t : State), exec i s = .next t →
    (∀ layer x y bit, i ≠ .setpx layer x y bit) → (∀ layer bit, i ≠ .fill layer bit) → i ≠ .derive →
    (∀ buf index value, i ≠ .wrbyte buf index value) → ∀ a, t.memRead a = s.memRead a

/-- Buffer C changes only in a micro-step of DERIVE, and at a reset (R32, R68). -/
def Obligations.OnlyDeriveWritesCombined : Prop :=
  ∀ (s t : State) (k : Nat), Invariant s → step s = .next t → t.bufByte .c k ≠ s.bufByte .c k → k < s.cfg.frameBytes →
    (∃ u, nextMove s = .run .derive u) ∨ (s.nextPick = .host ∧ ∃ i, s.hop = .derive i ∧ k = i) ∨
      ∃ c, s.nextPick = .reset c

/-! ### Engine micro-operations -/

/-- FETCH (R161): with a stop pending the engine exits, `STEP` kept; else `STEP` is clipped, the plan's entry latched and
PARK comes next; no bus call, no event. -/
def Obligations.FetchExitsOrLatches : Prop :=
  ∀ s : State, s.run = true → s.phase = 1#3 → s.stepIx ≠ 3#2 → s.curSrc ≠ 3#2 →
    (s.stopReq = true → exec .fetch s = .next { s with run := false, stopReq := false, phase := 0#3 }) ∧
    (s.stopReq = false → ∀ (plan : List (BitVec 16)) (ix : Nat) (w : BitVec 16) (src : Buf) (num den : BitVec 7),
      plan = (if s.gs then s.cfg.planGs else s.cfg.planPlain) →
      ix = (if plan.length ≤ s.stepIx.toNat then 0 else s.stepIx.toNat) →
      plan[ix]? = some w → decodePlanEntry w = .ok (.showEntry src num den) →
        exec .fetch s = .next { s with
          stepIx := BitVec.ofNat 2 ix, curSrc := bufCode src, curNum := num, curDen := den, phase := 2#3 })

/-- PARK (R141): the bytes `SetMux(PARK_ROWS)` in one call; `ok` traces them, sets the shadow and goes on to PWAIT; `err`
makes the shadow unknown and skips the sub-frame (R237). With the default operand form `SetMux(rows)` is
`[MUX_CMD, rows - 1]` (R111), and with the default byte too the park and unpark bytes are `[0xA8, 0x00]` and
`[0xA8, 0x38]`; these two defaults are PRESUMED (GK1): notes/assumptions/9.md. -/
def Obligations.ParkSendsTheParkCommand : Prop :=
  (∀ (c : Config) (rows : Nat), c.muxOperand = .rowsMinus 1 →
    setMux c rows = [c.muxCmd, BitVec.ofNat 8 (rows - 1)]) ∧
  setMux Config.default 1 = [0xA8#8, 0x00#8] ∧ setMux Config.default 57 = [0xA8#8, 0x38#8] ∧
  ∀ s : State, s.run = true → s.phase = 2#3 → s.stepIx ≠ 3#2 → s.curSrc ≠ 3#2 →
    (s.nextBus = .ok →
      exec .park s = .next { s.takeBus with
        trace := s.trace ++ [.cmd (setMux s.cfg s.cfg.parkRows)],
        dmux := some s.cfg.parkRows, phase := 3#3 }) ∧
    (s.nextBus = .err →
      exec .park s = .next { s.takeBus with
        dmux := none, terrCnt := saturatingSucc s.terrCnt, trace := s.trace ++ [.err .park], tx := [], lidx := 0,
        stepIx := BitVec.ofNat 2 ((s.stepIx.toNat + 1) % s.plan.length), phase := 1#3 })

/-- PWAIT (R162, R164): records `Wait(floor(PARK_WAIT_ROWS * CYCLE / ROWS_PER_CYCLE))` and opens the LOAD. -/
def Obligations.PwaitRecordsTheParkWait : Prop :=
  ∀ s : State, s.run = true → s.phase = 3#3 → s.stepIx ≠ 3#2 → s.curSrc ≠ 3#2 →
    exec .pwait s = .next { s with
      trace := s.trace ++ [.wait (s.cfg.parkWaitRows * s.cycle.toNat / s.cfg.rowsPerCycle)],
      lidx := 0, tx := [], phase := 4#3 }

/-- LOAD, read micro-step (R142): one byte of the buffer that `CUR_SRC` selects is appended to `TX`. -/
def Obligations.LoadReadsOneByte : Prop :=
  ∀ s : State, s.run = true → s.phase = 4#3 → s.stepIx ≠ 3#2 → s.curSrc ≠ 3#2 → s.lidx < s.cfg.frameBytes →
    ∃ v : Byte, s.memRead (s.curSrc.toNat * s.cfg.frameBytes + s.lidx) = some v ∧
      exec .load s = .next { s with tx := s.tx ++ [v], lidx := s.lidx + 1 }

/-- LOAD, transmit micro-step (R143): the gathered frame in one call; `ok` traces it, sets the shadow and goes on to
UNPARK; `err` makes the shadow unknown and skips the sub-frame (R237); `TX` is emptied in both. -/
def Obligations.LoadTransmitsTheFrame : Prop :=
  ∀ s : State, s.run = true → s.phase = 4#3 → s.stepIx ≠ 3#2 → s.curSrc ≠ 3#2 → s.lidx = s.cfg.frameBytes →
    (s.nextBus = .ok →
      exec .load s = .next { s.takeBus with
        trace := s.trace ++ [.data s.tx], dframe := some s.tx, tx := [], lidx := 0, phase := 5#3 }) ∧
    (s.nextBus = .err →
      exec .load s = .next { s.takeBus with
        dframe := none, terrCnt := saturatingSucc s.terrCnt, trace := s.trace ++ [.err .load], tx := [], lidx := 0,
        stepIx := BitVec.ofNat 2 ((s.stepIx.toNat + 1) % s.plan.length), phase := 1#3 })

/-- UNPARK (R144): the bytes `SetMux(H + MARGIN_ROWS)` and the extra bytes of the step's source in one call; `ok` traces
them, sets the shadow and goes on to XWAIT; `err` makes the shadow unknown and skips the rest of the sub-frame (R237).
The bytes are stated through `SetMux`, whose command byte and operand form are parameters (R111; their defaults are
PRESUMED: notes/assumptions/9.md). -/
def Obligations.UnparkSendsTheUnparkCommand : Prop :=
  ∀ (s : State) (src : Buf), s.run = true → s.phase = 5#3 → s.stepIx ≠ 3#2 → s.curSrc = bufCode src →
    (s.nextBus = .ok →
      exec .unpark s = .next { s.takeBus with
        trace := s.trace ++ [.cmd (setMux s.cfg (s.cfg.h + s.cfg.marginRows) ++
          match src with | .a => s.cfg.extraA | .b => s.cfg.extraB | .c => s.cfg.extraC)],
        dmux := some (s.cfg.h + s.cfg.marginRows), phase := 6#3 }) ∧
    (s.nextBus = .err →
      exec .unpark s = .next { s.takeBus with
        dmux := none, terrCnt := saturatingSucc s.terrCnt, trace := s.trace ++ [.err .unpark], tx := [], lidx := 0,
        stepIx := BitVec.ofNat 2 ((s.stepIx.toNat + 1) % s.plan.length), phase := 1#3 })

/-- XWAIT (R163, R165): records `Wait(floor(CYCLE * CUR_NUM / CUR_DEN))` and advances `STEP` modulo the length of the
plan that `GS` selects now; FETCH comes next. -/
def Obligations.XwaitRecordsTheExposureAndAdvances : Prop :=
  ∀ s : State, s.run = true → s.phase = 6#3 → s.stepIx ≠ 3#2 → s.curSrc ≠ 3#2 → s.curDen ≠ 0#7 →
    exec .xwait s = .next { s with
      trace := s.trace ++ [.wait (s.cycle.toNat * s.curNum.toNat / s.curDen.toNat)],
      stepIx := BitVec.ofNat 2
        ((s.stepIx.toNat + 1) % (if s.gs then s.cfg.planGs else s.cfg.planPlain).length),
      phase := 1#3 }

/-- R30, R237: the count of transport errors goes up by one and saturates at `2^32 - 1`. -/
def Obligations.TransportErrorCountSaturates : Prop :=
  ∀ (s : State) (p : BusPhase),
    (s.skip p).terrCnt.toNat = min (s.terrCnt.toNat + 1) (2 ^ 32 - 1) ∧ (s.skip p).phase = 1#3 ∧
    (s.skip p).run = s.run ∧ ((s.skip p).returnsToFetch = true ↔ s.run = true)

/-- Where an engine micro-operation is not enabled nothing changes, and the stops: reserved values of the engine's
registers fault and a plan without a well-formed entry is refused (R26, R141 to R144, R160 to R163, U12 b and c). That a
disabled micro-operation leaves the state as it is, and that these cases stop, are the model's choices: notes/assumptions
12, 13 and 14. -/
def Obligations.EngineStopsAndDisabledSteps : Prop :=
  (∀ (p : BitVec 3) (i : Instr) (s : State),
    decodePhase p = .ok i ∨ (p = 1#3 ∧ ∃ src num den, i = .showEntry src num den) →
      (¬(s.run = true ∧ s.phase = p) → exec i s = .next s) ∧
      (s.run = true → s.phase = p → s.stepIx = 3#2 ∨ s.curSrc = 3#2 → exec i s = .fault .reservedState)) ∧
  (∀ s : State, s.nextPick = .engine → s.run = true → s.phase = 7#3 → step s = .fault .reservedState) ∧
  (∀ s : State, s.run = true → s.stepIx ≠ 3#2 → s.curSrc ≠ 3#2 →
    (s.phase = 4#3 → s.cfg.frameBytes < s.lidx → exec .load s = .fault .reservedState) ∧
    (s.phase = 6#3 → s.curDen = 0#7 → exec .xwait s = .fault .reservedState) ∧
    (s.phase = 1#3 → s.stopReq = false → s.planEntry = none → exec .fetch s = .refused .illFormedPlan) ∧
    (s.phase = 1#3 → ∀ (src : Buf) (num den : BitVec 7), fractionWellFormed num den = false →
      exec (.showEntry src num den) s = .refused .illFormedPlan))

/-! ### SHOW and the loop -/

/-- SHOW with a stop pending exits at its FETCH and makes no bus call (R161, R211); with none pending and a bus that
answers `ok` it makes three calls and two waits in the order of R145, sends the `N` bytes of its source, leaves the
display unparked with that frame, and advances (R160). That a SHOW runs whole, with no host step between, so that it
sends the buffer as it stands and uses one `CYCLE` and one `GS`, is the model's choice, notes/assumptions/3.md: in general
a frame is no snapshot (R73, R142). -/
def Obligations.ErrorFreeShow : Prop :=
  ∀ (s : State) (src : Buf) (num den : BitVec 7), s.run = true → s.phase = 1#3 → s.stepIx ≠ 3#2 → s.curSrc ≠ 3#2 →
    fractionWellFormed num den = true →
    (s.stopReq = true →
      exec (.showEntry src num den) s = .next { s with run := false, stopReq := false, phase := 0#3 }) ∧
    (s.stopReq = false → ∀ rest : List BusAnswer, s.env.bus = .ok :: .ok :: .ok :: rest →
      exec (.showEntry src num den) s = .next { s with
        env := { s.env with bus := rest }
        stepIx := BitVec.ofNat 2 ((s.clippedStep.toNat + 1) % s.plan.length)
        curSrc := bufCode src
        curNum := num
        curDen := den
        lidx := 0
        tx := []
        trace := s.trace ++
          [.cmd (setMux s.cfg s.cfg.parkRows), .wait (rowTime s.cfg s.cycle s.cfg.parkWaitRows),
           .data (s.frameOf src), .cmd (setMux s.cfg s.cfg.unparkRows ++ s.cfg.extraCmd (bufCode src)),
           .wait (expose s.cycle num den)]
        dmux := some s.cfg.unparkRows
        dframe := some (s.frameOf src) })

/-- R160: a SHOW run as a whole (the model's choice, notes/assumptions/3.md) is exactly a run of the engine's atomic
micro-steps, at most `N + 6` of them, whatever the bus answers. -/
def Obligations.ShowIsItsMicroSteps : Prop :=
  ∀ (s : State) (src : Buf) (num den : BitVec 7), s.run = true → s.phase = 1#3 → s.stepIx ≠ 3#2 → s.curSrc ≠ 3#2 →
    s.planEntry = some (src, num, den) →
    ∃ (k : Nat) (t : State), 0 < k ∧ k ≤ s.cfg.frameBytes + 6 ∧ exec (.showEntry src num den) s = .next t ∧
      runSteps k (s.scheduling .engine k) = .next t

/-- One full refresh cycle of the default grayscale plan with no transport error appends to TRACE the fifteen events of
R170, in order, and comes back to entry 0. Each sub-frame step is taken as a whole, the model's choice: notes/assumptions/3.md. The command byte 0xA8 and the operands
0x00 and 0x38 are those of the default configuration (R111), PRESUMED: notes/assumptions/9.md. -/
def Obligations.OneGrayscaleCycle : Prop :=
  ∀ (s : State) (rest : List BusAnswer), Invariant s → s.cfg = Config.default → s.run = true → s.phase = 1#3 →
    s.gs = true → s.stepIx = 0#2 → s.stopReq = false → s.env.bus = List.replicate 9 .ok ++ rest →
    ∃ t, runSteps 3 (s.scheduling .subframe 3) = .next t ∧
      t.trace = s.trace ++
        [.cmd [0xA8#8, 0x00#8], .wait (8 * s.cycle.toNat / 192), .data (s.frameOf .a), .cmd [0xA8#8, 0x38#8],
         .wait (s.cycle.toNat / 2),
         .cmd [0xA8#8, 0x00#8], .wait (8 * s.cycle.toNat / 192), .data (s.frameOf .b), .cmd [0xA8#8, 0x38#8],
         .wait (s.cycle.toNat / 4),
         .cmd [0xA8#8, 0x00#8], .wait (8 * s.cycle.toNat / 192), .data (s.frameOf .c), .cmd [0xA8#8, 0x38#8],
         .wait (s.cycle.toNat / 4)] ∧
      t.stepIx = 0#2 ∧ t.phase = 1#3 ∧ t.run = true ∧ t.env.bus = rest

/-- A pending stop is seen within one sub-frame step when every bus call returns: after `N + 6` engine micro-steps the
engine has exited (R161, R176, R243). Picks left over after the exit only get used up, which is the model's choice:
notes/assumptions/2.md. -/
def Obligations.PendingStopIsHonoured : Prop :=
  ∀ (s : State) (x y z : BusAnswer) (rest : List BusAnswer), Invariant s → s.stopReq = true →
    s.env.bus = x :: y :: z :: rest → x ≠ .never → y ≠ .never → z ≠ .never →
    ∃ t, runSteps (s.cfg.frameBytes + 6) (s.scheduling .engine (s.cfg.frameBytes + 6)) = .next t ∧
      t.run = false ∧ t.stopReq = false ∧ t.phase = 0#3 ∧ t.hop = .stopwait

/-- A bus call that never returns leaves the engine where it is: short of a reset, no step of any agent moves it (R238).
That the answer `never` is not used up, so that the engine stays stuck however often it is picked, is the model's reading
of R146 and R238, DEDUCED: notes/assumptions/6.md. -/
def Obligations.HungEngineStaysStuck : Prop :=
  ∀ s t : State, s.atBusCall = true → s.nextBus = .never → (∀ c, s.nextPick ≠ .reset c) → step s = .next t →
    t.atBusCall = true ∧ t.nextBus = .never ∧ t.run = true ∧ t.phase = s.phase ∧ t.stepIx = s.stepIx ∧
    t.trace = s.trace ∧ t.tx = s.tx

/-- R169: the three exposure waits of one grayscale cycle sum to `CYCLE`, `CYCLE - 1` or `CYCLE - 2`, and the fractions of
both default plans sum to exactly 1; R164 to R166: at the default configuration a row time of 48 rows is the quarter-cycle
exposure for every `CYCLE`, and the nominal durations at 27400 are 1141, 13700, 6850 and 27400 microseconds. -/
def Obligations.ExposuresSumToTheCycle : Prop :=
  (∀ cycle : Word,
    let total := expose cycle 1#7 2#7 + expose cycle 1#7 4#7 + expose cycle 1#7 4#7
    cycle.toNat ≤ total + 2 ∧ total ≤ cycle.toNat) ∧
  planWellFormed Config.default.planGs = true ∧ planWellFormed Config.default.planPlain = true ∧
  planFractions Config.default.planGs = some [(.a, 1, 2), (.b, 1, 4), (.c, 1, 4)] ∧
  planFractions Config.default.planPlain = some [(.a, 1, 1)] ∧
  (∀ cycle : Word, rowTime Config.default cycle Config.default.exposeRows = expose cycle 1#7 4#7) ∧
  rowTime Config.default 27400#32 8 = 1141 ∧ expose 27400#32 1#7 2#7 = 13700 ∧ expose 27400#32 1#7 4#7 = 6850 ∧
  expose 27400#32 1#7 1#7 = 27400

/-- The lit fractions of the four layer-bit pairs under the default plan are 0, 1/4, 1/2 and 1 (R174); that the table of
levels lists them in that order is the spec's choice D10. -/
def Obligations.LitFractions : Prop :=
  ∀ fs, planFractions Config.default.planGs = some fs → ∀ a b : Bool,
    4 * (litFraction a b fs).1 = (litFraction a b fs).2 *
      (match a, b with | false, false => 0 | false, true => 1 | true, false => 2 | true, true => 4)

/-- GSOFF and GSON under the default plans, with a bus that answers (R161, R163, R172). Inside a step, from PARK to XWAIT,
the command is answered OK, the engine finishes the step, recording last the exposure of the LATCHED fraction, and the next
FETCH latches: after GSOFF entry 0 of the plain plan, a whole cycle of Layer A; after GSON the entry `(STEP + 1) mod 3` of
the grayscale plan, so Layer B after a plain step, whose `STEP` is 0. Between a step and its FETCH, the toggle decides that
very FETCH, which records nothing: after GSOFF `STEP` is clipped to entry 0 of the plain plan; after GSON the entry at
`STEP` of the grayscale plan. -/
def Obligations.ToggleTakesEffectAtTheNextStep : Prop :=
  ∀ s : State, Invariant s → s.cfg.planGs = Config.default.planGs → s.cfg.planPlain = Config.default.planPlain →
    s.stopReq = false →
    (s.insideStep = true → ∀ (rest : List BusAnswer) (on : Bool), s.env.bus = .ok :: .ok :: .ok :: rest →
      ∃ (u t w : State) (k : Nat) (events : List Event),
        exec (if on then .gson else .gsoff) s = .next u ∧ u.resp = s.resp ++ [⟨0#8, 0#32⟩] ∧
        k ≤ s.cfg.frameBytes + 5 ∧ runSteps k (u.scheduling .engine k) = .next t ∧ t.phase = 1#3 ∧
        t.trace = s.trace ++ events ++ [.wait (s.cycle.toNat * s.curNum.toNat / s.curDen.toNat)] ∧
        exec .fetch t = .next w ∧ w.trace = t.trace ∧ w.phase = 2#3 ∧
        (w.stepIx.toNat, w.curSrc, w.curNum, w.curDen) =
          (if on then
            match (s.stepIx.toNat + 1) % 3 with
            | 0 => (0, 0#2, 1#7, 2#7)
            | 1 => (1, 1#2, 1#7, 4#7)
            | _ => (2, 2#2, 1#7, 4#7)
          else (0, 0#2, 1#7, 1#7))) ∧
    (s.phase = 1#3 → ∀ on : Bool,
      ∃ u w : State,
        exec (if on then .gson else .gsoff) s = .next u ∧ u.resp = s.resp ++ [⟨0#8, 0#32⟩] ∧
        exec .fetch u = .next w ∧ w.trace = s.trace ∧ w.phase = 2#3 ∧
        (w.stepIx.toNat, w.curSrc, w.curNum, w.curDen) =
          (if on then
            match s.stepIx.toNat with
            | 0 => (0, 0#2, 1#7, 2#7)
            | 1 => (1, 1#2, 1#7, 4#7)
            | _ => (2, 2#2, 1#7, 4#7)
          else (0, 0#2, 1#7, 1#7)))

/-! ### Refusals, frames, whole-machine rules -/

/-- R233: with `CAPERR = 1` every command but RDCSR answers CAPERR and changes nothing, and no engine step exists. That a
picked engine without a step only uses up its pick is the model's choice: notes/assumptions/2.md. -/
def Obligations.CapErrRefusesAllButRdcsr : Prop :=
  (∀ (i : Instr) (s : State), hostCommand i = true → (∀ csr, i ≠ .rdcsr csr) → s.capErr = true →
    exec i s = .next { s with resp := s.resp ++ [⟨2#8, 0#32⟩] }) ∧
  (∀ s : State, Invariant s → s.capErr = true → enginePick s.nextPick = true → step s = .next s.takePick)

/-- R234: the complete list of causes of PRECOND. -/
def Obligations.PrecondCauses : Prop :=
  ∀ (i : Instr) (s : State), Invariant s → hostCommand i = true → s.capErr = false →
    (exec i s = .next { s with resp := s.resp ++ [⟨3#8, 0#32⟩] } ↔
      (i = .commit ∧ s.run = true) ∨ (i = .reload ∧ s.run = true) ∨
      (∃ layer x y bit, i = .setpx layer x y bit ∧ (s.cfg.w ≤ x.toNat ∨ s.cfg.h ≤ y.toNat)) ∨
      (∃ index value, i = .wrbyte .c index value) ∨
      (∃ buf index value, i = .wrbyte buf index value ∧ s.cfg.frameBytes ≤ index.toNat) ∨
      (∃ buf index, i = .rdbyte buf index ∧ s.cfg.frameBytes ≤ index.toNat))

/-- R103: every accepted word gets exactly one response, delivered when the command is complete: a host micro-step of a
command either completes it with one response and frees the port, or delivers none and holds the port. -/
def Obligations.OneResponsePerCommand : Prop :=
  ∀ s t : State, s.nextPick = .host → s.hop ≠ .none ∨ s.env.words ≠ [] → step s = .next t →
    (t.hop = .none ∧ ∃ r, t.resp = s.resp ++ [r]) ∨ (t.hop ≠ .none ∧ t.resp = s.resp)

/-- R21, R216: `RUN` goes to 1 only in a step that runs START, and to 0 only in the engine's exit at a FETCH that finds a
stop pending, or at a reset. -/
def Obligations.RunChangesOnlyAtStartAndExit : Prop :=
  ∀ s t : State, step s = .next t →
    (s.run = false → t.run = true → ∃ u, nextMove s = .run .start u) ∧
    (s.run = true → t.run = false →
      (enginePick s.nextPick = true ∧ s.phase = 1#3 ∧ s.stopReq = true) ∨ ∃ c, s.nextPick = .reset c)

/-- The engine's frame: a step of the engine writes no buffer, no store, no host-side register and delivers no response,
and only appends to TRACE (R36, R68, R70, R250). -/
def Obligations.EngineFrame : Prop :=
  ∀ s t : State, enginePick s.nextPick = true → step s = .next t →
    (∀ a, t.memRead a = s.memRead a) ∧ t.cfg = s.cfg ∧ t.gs = s.gs ∧ t.capErr = s.capErr ∧ t.cycle = s.cycle ∧
    t.hop = s.hop ∧ t.nvValid = s.nvValid ∧ t.nvCycle = s.nvCycle ∧ t.resp = s.resp ∧ t.env.words = s.env.words ∧
    t.env.nvReads = s.env.nvReads ∧ t.env.nvWrites = s.env.nvWrites ∧ ∃ events, t.trace = s.trace ++ events

/-- The host's frame: a step of the host makes no bus call, leaves TRACE, the shadow, the error count and the engine's
latches as they are, and moves the engine's position only in START (R70, R151, R210, R250). -/
def Obligations.HostFrame : Prop :=
  ∀ s t : State, s.nextPick = .host → step s = .next t →
    t.cfg = s.cfg ∧ t.capErr = s.capErr ∧ t.trace = s.trace ∧ t.dmux = s.dmux ∧ t.dframe = s.dframe ∧
    t.terrCnt = s.terrCnt ∧ t.tx = s.tx ∧ t.lidx = s.lidx ∧ t.curSrc = s.curSrc ∧ t.curNum = s.curNum ∧
    t.curDen = s.curDen ∧ t.env.bus = s.env.bus ∧
    (¬(t.run = s.run ∧ t.phase = s.phase ∧ t.stepIx = s.stepIx) → ∃ u, nextMove s = .run .start u)

/-- A frame reaches the display only while it is parked: in the shadow, DFRAME changes only while `DMUX = PARK_ROWS`
(R147). -/
def Obligations.FramesAreLoadedWhileParked : Prop :=
  ∀ s t : State, Invariant s → s.nextPick = .engine → step s = .next t → t.dframe ≠ s.dframe → s.parked ∧ t.dmux = s.dmux

/-- No step reads TRACE, the display shadow (R36, R37) or the responses: two states that differ in nothing else step
alike. The responses are an output (R14, R103), which the model keeps as an observer's list, its own choice:
notes/assumptions/16.md. -/
def Obligations.ObserverStateIsNeverRead : Prop :=
  ∀ s s' : State, s.hideObserver = s'.hideObserver → agreeUpTo State.hideObserver (step s) (step s')

/-- A calibration change never alters a byte sent on the bus, only the durations of waits: two states that differ in
nothing but `CYCLE` and recorded durations make engine steps that differ in nothing else (R151). -/
def Obligations.CycleReachesOnlyTheWaits : Prop :=
  ∀ s s' : State, s.hideCycle = s'.hideCycle → enginePick s.nextPick = true →
    agreeUpTo State.hideCycle (step s) (step s')

/-! ### Reset and the invariant -/

/-- R270: the reset sequence, element by element, with the strap at either level; `CYCLE` is loaded, the store and the
configuration stay (R271). -/
def Obligations.ResetSequenceValues : Prop :=
  ∀ (s : State) (strap : Bool), s.nextPick = .reset strap →
    ∃ t, step s = .next t ∧
      t.capErr = !strap ∧ t.run = false ∧ t.stopReq = false ∧ t.gs = true ∧ t.stepIx = 0#2 ∧ t.phase = 0#3 ∧
      t.curSrc = 0#2 ∧ t.curNum = 0#7 ∧ t.curDen = 0#7 ∧ t.lidx = 0 ∧ t.tx = [] ∧ t.terrCnt = 0#32 ∧
      (∀ a, a < 3 * s.cfg.frameBytes → t.memRead a = some 0x00#8) ∧ t.hop = .none ∧ t.trace = [] ∧ t.dmux = none ∧
      t.dframe = none ∧ t.nvValid = s.nvValid ∧ t.nvCycle = s.nvCycle ∧ t.cfg = s.cfg ∧
      t.cycle = (if s.nextNvRead = .ok ∧ s.nvValid = true ∧ s.cfg.cycleMin ≤ s.nvCycle.toNat ∧
          s.nvCycle.toNat ≤ s.cfg.cycleMax then s.nvCycle else BitVec.ofNat 32 s.cfg.defaultCycle)

/-- The invariant holds right after reset, in the default configuration with an empty store (the model's choices where the
spec leaves them open: notes/assumptions/8.md, 9.md). -/
def Obligations.InvariantAtReset : Prop := Invariant State.reset

/-- Every step keeps the invariant, from every state that has it, whoever moves and whatever is drawn: reserved register
values never occur, PHASE is IDLE exactly when RUN is 0, CYCLE stays in its bounds, the LOAD progress stays confined, the
memory stays canonical, and the shadow says parked and unparked where the protocol says so (R25, R26, R28, R29, R147). -/
def Obligations.EveryStepKeepsTheInvariant : Prop :=
  ∀ s t : State, Invariant s → step s = .next t → Invariant t

/-- From a state with the invariant no step faults or is refused: decode and execution are total (U12 b, U15, R102). -/
def Obligations.NoStepStops : Prop :=
  ∀ s : State, Invariant s → ∃ t, step s = .next t
end

