-- ==== Sys2Proof/Laws/Memory.lean ====
section
/-!
SUPPORT. The laws of the buffer memory: a read after a write, the canonical form kept by every write, and equal reads
making equal memories.
-/

namespace Sys2Proof.Machine

/-- A byte below every listed address reads as unlisted. -/
theorem Memory.byteAt_below : ∀ (m : Memory) (a : Nat), (∀ c ∈ m, a < c.1) → m.byteAt a = Memory.unlisted
  | [], _, _ => rfl
  | (b, v) :: rest, a, h => by
    have hb : a ≠ b := Nat.ne_of_lt (h (b, v) (by simp))
    simp only [Memory.byteAt, if_neg hb]
    exact Memory.byteAt_below rest a fun c hc => h c (by simp [hc])

/-- Another byte reads as before a write. -/
theorem Memory.byteAt_store_other : ∀ (m : Memory) (a b : Nat) (v : Byte), b ≠ a →
    (m.store a v).byteAt b = m.byteAt b
  | [], a, b, v, h => by
    by_cases hv : v = Memory.unlisted <;> simp [Memory.store, Memory.byteAt, hv, h]
  | (c, w) :: rest, a, b, v, h => by
    have ih := Memory.byteAt_store_other rest a b v h
    by_cases hac : a < c
    · by_cases hv : v = Memory.unlisted <;> simp [Memory.store, Memory.byteAt, hac, hv, h]
    · by_cases hae : a = c
      · subst hae
        by_cases hv : v = Memory.unlisted <;> simp [Memory.store, Memory.byteAt, hv, h]
      · simp [Memory.store, Memory.byteAt, hac, hae, ih]

/-- The byte written reads as the value written, in a memory whose addresses rise. -/
theorem Memory.byteAt_store_same : ∀ (m : Memory) (a : Nat) (v : Byte), m.Pairwise (fun c d => c.1 < d.1) →
    (m.store a v).byteAt a = v
  | [], a, v, _ => by
    by_cases hv : v = Memory.unlisted <;> simp [Memory.store, Memory.byteAt, hv]
  | (c, w) :: rest, a, v, h => by
    rw [List.pairwise_cons] at h
    have ih := Memory.byteAt_store_same rest a v h.2
    by_cases hac : a < c
    · by_cases hv : v = Memory.unlisted
      · have hbelow := Memory.byteAt_below ((c, w) :: rest) a fun d hd => by
          rcases List.mem_cons.1 hd with rfl | hd
          · exact hac
          · exact Nat.lt_trans hac (h.1 d hd)
        simp [Memory.store, hac, hv, hbelow]
      · simp [Memory.store, Memory.byteAt, hac, hv]
    · by_cases hae : a = c
      · subst hae
        by_cases hv : v = Memory.unlisted
        · simp [Memory.store, hv, Memory.byteAt_below rest a h.1]
        · simp [Memory.store, Memory.byteAt, hv]
      · simp [Memory.store, Memory.byteAt, hac, hae, ih]

/-- A cell of a memory after a write was there before, or is the one written and differs from the unlisted value. -/
theorem Memory.mem_store : ∀ (m : Memory) (a : Nat) (v : Byte) (c : Host.Cell), c ∈ m.store a v →
    c ∈ m ∨ (c = (a, v) ∧ v ≠ Memory.unlisted)
  | [], a, v, c, h => by
    by_cases hv : v = Memory.unlisted <;> simp_all [Memory.store]
  | (b, w) :: rest, a, v, c, h => by
    have ih := Memory.mem_store rest a v c
    by_cases hab : a < b
    · by_cases hv : v = Memory.unlisted
      · exact .inl (by simpa [Memory.store, hab, hv] using h)
      · rcases (by simpa [Memory.store, hab, hv] using h : c = (a, v) ∨ c = (b, w) ∨ c ∈ rest) with h | h | h
        · exact .inr ⟨h, hv⟩
        · exact .inl (by simp [h])
        · exact .inl (by simp [h])
    · by_cases hae : a = b
      · subst hae
        by_cases hv : v = Memory.unlisted
        · exact .inl (by simp [(by simpa [Memory.store, hv] using h : c ∈ rest)])
        · rcases (by simpa [Memory.store, hv] using h : c = (a, v) ∨ c ∈ rest) with h | h
          · exact .inr ⟨h, hv⟩
          · exact .inl (by simp [h])
      · rcases (by simpa [Memory.store, hab, hae] using h : c = (b, w) ∨ c ∈ Memory.store rest a v) with h | h
        · exact .inl (by simp [h])
        · rcases ih h with h | h
          · exact .inl (by simp [h])
          · exact .inr h

/-- A write keeps the addresses rising. -/
theorem Memory.store_sorted : ∀ (m : Memory) (a : Nat) (v : Byte), m.Pairwise (fun c d => c.1 < d.1) →
    (m.store a v).Pairwise (fun c d => c.1 < d.1)
  | [], a, v, _ => by
    by_cases hv : v = Memory.unlisted <;> simp [Memory.store, hv]
  | (b, w) :: rest, a, v, h => by
    have hcons := List.pairwise_cons.1 h
    have ih := Memory.store_sorted rest a v hcons.2
    by_cases hab : a < b
    · by_cases hv : v = Memory.unlisted
      · simpa [Memory.store, hab, hv] using h
      · simp only [Memory.store, hab, hv, if_true, if_false]
        refine List.pairwise_cons.2 ⟨fun d hd => ?_, h⟩
        rcases List.mem_cons.1 hd with rfl | hd
        · exact hab
        · exact Nat.lt_trans hab (hcons.1 d hd)
    · by_cases hae : a = b
      · subst hae
        by_cases hv : v = Memory.unlisted
        · simpa [Memory.store, hv] using hcons.2
        · simpa [Memory.store, hv] using h
      · simp only [Memory.store, hab, hae, if_false]
        refine List.pairwise_cons.2 ⟨fun d hd => ?_, ih⟩
        rcases Memory.mem_store rest a v d hd with hd | ⟨rfl, _⟩
        · exact hcons.1 d hd
        · exact Nat.lt_of_le_of_ne (Nat.le_of_not_lt hab) (Ne.symm hae)

/-- A write keeps the canonical form. -/
theorem Memory.store_wf (m : Memory) (a : Nat) (v : Byte) (h : m.wf) : (m.store a v).wf := by
  refine ⟨Memory.store_sorted m a v h.1, fun c hc => ?_⟩
  rcases Memory.mem_store m a v c hc with hc | ⟨rfl, hv⟩
  · exact h.2 c hc
  · exact hv

/-- The byte listed at an address is what reads there, in a memory whose addresses rise. -/
theorem Memory.byteAt_of_mem : ∀ (m : Memory) (c : Host.Cell), m.Pairwise (fun c d => c.1 < d.1) → c ∈ m →
    m.byteAt c.1 = c.2
  | [], _, _, h => by simp at h
  | (b, w) :: rest, c, hs, h => by
    have hcons := List.pairwise_cons.1 hs
    rcases List.mem_cons.1 h with rfl | h
    · simp [Memory.byteAt]
    · have hne : c.1 ≠ b := Nat.ne_of_gt (hcons.1 c h)
      simp [Memory.byteAt, hne, Memory.byteAt_of_mem rest c hcons.2 h]

/-- A write through the state: what it answers and where (R60, R61). -/
theorem State.memWrite_eq_some (s t : State) (a : Nat) (v : Byte) :
    s.memWrite a v = some t ↔ a < 3 * s.cfg.frameBytes ∧ t = s.withMem (s.mem.store a v) := by
  by_cases h : a < 3 * s.cfg.frameBytes <;> simp [State.memWrite, h, eq_comm]

/-- A read through the state: what it answers and where (R60, R61). -/
theorem State.memRead_eq_some (s : State) (a : Nat) (v : Byte) :
    s.memRead a = some v ↔ a < 3 * s.cfg.frameBytes ∧ v = s.mem.byteAt a := by
  by_cases h : a < 3 * s.cfg.frameBytes <;> simp [State.memRead, h, eq_comm]

end Sys2Proof.Machine
end

