-- ==== Sys2Proof/Laws/Ops.lean ====
section
/-!
SUPPORT. For each shared operation, what it can answer, once; later proofs cite these instead of unfolding it.
-/

namespace Sys2Proof.Machine

/-- A buffer access that answers a next state had a value to go on with. -/
theorem orNoSuchAddress_next {α : Type} (x : Option α) (k : α → Result) (t : State) :
    orNoSuchAddress x k = .next t ↔ ∃ a, x = some a ∧ k a = .next t := by
  cases x <;> simp [orNoSuchAddress]

/-- The prelude of R239: refused with `CAPERR`, or the effect. -/
theorem capGuard_cases (s : State) (effect : Result) :
    (s.capErr = true ∧ capGuard s effect = .next (s.respond .capErr 0#32)) ∨
      (s.capErr = false ∧ capGuard s effect = effect) := by
  cases h : s.capErr <;> simp [capGuard, h, State.raise]

/-- With `CAPERR = 0` the prelude lets the effect through (R239). -/
theorem capGuard_of_capable (s : State) (effect : Result) (h : s.capErr = false) : capGuard s effect = effect := by
  simp [capGuard, h]

/-- With `CAPERR = 1` the prelude refuses (R233). -/
theorem capGuard_of_capErr (s : State) (effect : Result) (h : s.capErr = true) :
    capGuard s effect = .next (s.respond .capErr 0#32) := by
  simp [capGuard, h, State.raise]

/-- A micro-operation that answers a next state: it was enabled with legal registers and that is its effect, or it was
not enabled and nothing changed. -/
theorem microOp_next (p : BitVec 3) (s t : State) (effect : Result) :
    microOp p s effect = .next t ↔
      (s.run = true ∧ s.phase = p ∧ s.reservedRegs = false ∧ effect = .next t) ∨
        (¬(s.run = true ∧ s.phase = p) ∧ t = s) := by
  by_cases h : s.run = true ∧ s.phase = p
  · obtain ⟨hr, hp⟩ := h
    subst hp
    cases hb : s.reservedRegs <;> simp [microOp, hr, hb]
  · have : (s.run && s.phase == p) = false := by
      cases hr : s.run <;> simp_all
    simp only [microOp, this, Bool.false_eq_true, if_false, h, not_false_eq_true, true_and]
    constructor
    · intro he
      cases he
      exact .inr rfl
    · rintro (⟨hr, hp, _⟩ | rfl)
      · exact absurd ⟨hr, hp⟩ h
      · rfl

/-- An enabled micro-operation with legal registers is its effect. -/
theorem microOp_enabled (s : State) (effect : Result) (hrun : s.run = true) (hreg : s.reservedRegs = false) :
    microOp s.phase s effect = effect := by
  simp [microOp, hrun, hreg]

/-- A micro-operation of another phase, or of a stopped engine, is no step. -/
theorem microOp_disabled (p : BitVec 3) (s : State) (effect : Result) (h : ¬(s.run = true ∧ s.phase = p)) :
    microOp p s effect = .next s := by
  exact (microOp_next p s s effect).2 (.inr ⟨h, rfl⟩)

/-- Inside a SHOW: an enabled micro-operation is its effect, any other changes nothing. -/
theorem microEffect_cases (p : BitVec 3) (f : State → State) (s : State) :
    (s.run = true ∧ s.phase = p ∧ microEffect p f s = f s) ∨
      (¬(s.run = true ∧ s.phase = p) ∧ microEffect p f s = s) := by
  by_cases h : s.run = true ∧ s.phase = p
  · exact .inl ⟨h.1, h.2, by simp [microEffect, h.1, h.2]⟩
  · have : (s.run && s.phase == p) = false := by
      cases hr : s.run <;> simp_all
    exact .inr ⟨h, by simp [microEffect, this]⟩

/-- A bus call: the effect of `ok`, the loss of `err` and then the skip, or nothing when the bus never returns (R146). -/
theorem busCall_cases (p : BusPhase) (onOk onErr : State → State) (s : State) :
    (s.nextBus = .ok ∧ busCall p onOk onErr s = onOk s.takeBus) ∨
      (s.nextBus = .err ∧ busCall p onOk onErr s = (onErr s.takeBus).skip p) ∨
      (s.nextBus = .never ∧ busCall p onOk onErr s = s) := by
  cases h : s.nextBus <;> simp [busCall, h]

/-- The last micro-step of an `N`-step command answers; an earlier one moves the index on. -/
theorem finishAt_cases (s : State) (i : Nat) (more : Hop) :
    (i + 1 < s.cfg.frameBytes ∧ s.finishAt i more = s.withHop more) ∨
      (s.cfg.frameBytes ≤ i + 1 ∧ s.finishAt i more = (s.withHop .none).respond .ok 0#32) := by
  by_cases h : i + 1 < s.cfg.frameBytes
  · exact .inl ⟨h, by simp [State.finishAt, h]⟩
  · exact .inr ⟨Nat.le_of_not_lt h, by simp [State.finishAt, h]⟩

/-- `LoadCycle()` answers the stored value, only when it is usable, or the default (R196). -/
theorem loadCycle_cases (s : State) :
    (s.nextNvRead = .ok ∧ s.storedCycleUsable = true ∧ s.loadCycle = s.nvCycle) ∨
      s.loadCycle = BitVec.ofNat 32 s.cfg.defaultCycle := by
  cases hr : s.nextNvRead <;> cases hu : s.storedCycleUsable <;> simp [State.loadCycle, hr, hu]

/-- The clamp of 00_scope.md section 5 lies in its bounds. -/
theorem clamp_mem (v lo hi : Int) (h : lo ≤ hi) : lo ≤ clamp v lo hi ∧ clamp v lo hi ≤ hi := by
  unfold clamp
  split <;> (try split) <;> omega

/-- A step is the meaning of the instruction the picked agent fetched, or that agent's other micro-step. -/
theorem step_cases (s : State) :
    (∃ i t, nextMove s = .run i t ∧ step s = exec i t) ∨ (∃ r, nextMove s = .done r ∧ step s = r) := by
  cases h : nextMove s with
  | run i t => exact .inl ⟨i, t, rfl, by simp [step, h]⟩
  | done r => exact .inr ⟨r, rfl, by simp [step, h]⟩

/-- Who moves, by the pick. -/
theorem nextMove_cases (s : State) :
    (s.nextPick = .host ∧ nextMove s = hostMove s.takePick) ∨
      (s.nextPick = .engine ∧ nextMove s = engineMove s.takePick) ∨
      (s.nextPick = .subframe ∧ nextMove s = subframeMove s.takePick) ∨
      (∃ c, s.nextPick = .reset c ∧ nextMove s = .done (.next (resetSequence c s.takePick))) := by
  cases h : s.nextPick <;> simp [nextMove, h]

/-- The host runs an instruction only with a free port, and it is the one its next word spells (R34, R106). -/
theorem hostMove_run (s t : State) (i : Instr) (h : hostMove s = .run i t) :
    s.hop = .none ∧ ∃ w rest, s.env.words = w :: rest ∧ decodeCommand w = .ok i ∧ t = s.acceptWord rest := by
  unfold hostMove at h
  split at h
  · rename_i hh
    split at h
    · cases h
    · rename_i w rest hw
      split at h
      · rename_i j hd
        cases h
        exact ⟨hh, w, rest, hw, hd, rfl⟩
      · cases h
  · cases h

/-- The engine runs a micro-operation only while `RUN = 1`, and it is the one `PHASE` names (R160). -/
theorem engineMove_run (s t : State) (i : Instr) (h : engineMove s = .run i t) :
    s.run = true ∧ decodePhase s.phase = .ok i ∧ t = s := by
  unfold engineMove at h
  split at h
  · rename_i hr
    split at h
    · rename_i j hd
      cases h
      exact ⟨hr, hd, rfl⟩
    · cases h
  · cases h

/-- A pick of a whole sub-frame step runs the SHOW of the plan entry at `STEP` at a FETCH, else the engine's next
micro-operation. -/
theorem subframeMove_cases (s : State) :
    (∃ src num den, s.run = true ∧ s.phase = phaseFetch ∧ s.planEntry = some (src, num, den) ∧
        subframeMove s = .run (.showEntry src num den) s) ∨
      subframeMove s = engineMove s := by
  by_cases h : (s.run && s.phase == phaseFetch) = true
  · cases he : s.planEntry with
    | none => exact .inr (by simp [subframeMove, h, he])
    | some e =>
      obtain ⟨src, num, den⟩ := e
      have h2 : s.run = true ∧ s.phase = phaseFetch := by simpa using h
      exact .inl ⟨src, num, den, h2.1, h2.2, rfl, by simp [subframeMove, h, he]⟩
  · exact .inr (by simp only [subframeMove, if_neg h])

/-- A decoded plan entry has a well-formed fraction (R110). -/
theorem decodePlanEntry_wellFormed (w : BitVec 16) (i : Instr) (h : decodePlanEntry w = .ok i) :
    ∃ src num den, i = .showEntry src num den ∧ fractionWellFormed num den = true := by
  unfold decodePlanEntry at h
  split at h
  · cases h
  · split at h
    · rename_i src _ hf
      cases h
      exact ⟨src, _, _, rfl, hf⟩
    · cases h

/-- A plan entry that the engine is at has a well-formed fraction (R110). -/
theorem planEntry_wellFormed (s : State) (src : Buf) (num den : BitVec 7) (h : s.planEntry = some (src, num, den)) :
    fractionWellFormed num den = true := by
  unfold State.planEntry at h
  split at h
  · cases h
  · rename_i w _
    split at h
    · rename_i _ _ _ hd
      obtain ⟨src', num', den', hi, hf⟩ := decodePlanEntry_wellFormed _ _ hd
      cases hi
      cases h
      exact hf
    · cases h

/-- `SetMux` with the default operand form, as R111 writes it. -/
theorem setMux_rowsMinusOne (c : Config) (rows : Nat) (h : c.muxOperand = .rowsMinus 1) :
    setMux c rows = [c.muxCmd, BitVec.ofNat 8 (rows - 1)] := by
  simp [setMux, muxOperandByte, h]

/-- `SetMux` with an operand table. -/
theorem setMux_table (c : Config) (rows : Nat) (operands : List Byte) (h : c.muxOperand = .table operands) :
    setMux c rows = [c.muxCmd, operands.getD (rows - 1) 0#8] := by
  simp [setMux, muxOperandByte, h]

/-- The state after the first reset is what the reset sequence makes of any state of the default configuration with an
empty store and no response delivered yet (R270; that the store is empty is the model's choice, notes/assumptions/8.md).
-/
theorem resetSequence_eq_reset (s : State) (hc : s.cfg = Config.default) (hv : s.nvValid = false)
    (hn : s.nvCycle = 0#32) (hr : s.resp = []) :
    { resetSequence true s with env := State.reset.env } = State.reset := by
  have hd : ∀ u : State, u.nvValid = false → u.cfg = Config.default → u.loadCycle = 27400#32 := by
    intro u h1 h2
    unfold State.loadCycle
    split
    · simp [State.storedCycleUsable, h1, h2, Config.default]
    · simp [h2, Config.default]
  have hk : s.dropHungCall.cfg = s.cfg ∧ s.dropHungCall.nvValid = s.nvValid ∧ s.dropHungCall.nvCycle = s.nvCycle ∧
      s.dropHungCall.resp = s.resp := by
    unfold State.dropHungCall
    split <;> exact ⟨rfl, rfl, rfl, rfl⟩
  obtain ⟨k1, k2, k3, k4⟩ := hk
  have hl := hd { s.dropHungCall with
      capErr := !true, run := false, stopReq := false, gs := true, stepIx := 0#2, phase := phaseIdle, curSrc := 0#2,
      curNum := 0#7, curDen := 0#7, lidx := 0, tx := [], terrCnt := 0#32, mem := [], hop := .none, trace := [],
      dmux := none, dframe := none } (k2.trans hv) (k1.trans hc)
  simp only [resetSequence, State.reloadCycle, hl]
  simp [State.takeNvRead, State.reset, phaseIdle, k1, k2, k3, k4, hc, hv, hn, hr, Config.default]

end Sys2Proof.Machine
end

