-- ==== Sys2Proof/Laws/PerInstr.lean ====
section
/-!
SUPPORT. The family TableRow: every instruction's word matches its own row of spec/opcode_table.json, one lemma per
constructor.
-/

namespace Sys2Proof.Laws.TableRow

/-- A row of the opcode table: the mask and match of a command, the fixed bits of a plan entry (none) or of a phase. -/
inductive Row where
  | command (mask pattern : Word)
  | plan
  | phase (p : BitVec 3)

/-- The row of each instruction in spec/opcode_table.json. -/
def row : Instr → Row
  | .start => .command 0xFFFFFFFF#32 0x01000000#32
  | .stop => .command 0xFFFFFFFF#32 0x02000000#32
  | .gson => .command 0xFFFFFFFF#32 0x03000000#32
  | .gsoff => .command 0xFFFFFFFF#32 0x04000000#32
  | .rdcsr _ => .command 0xFFFFFF00#32 0x08000000#32
  | .getcyc => .command 0xFFFFFFFF#32 0x10000000#32
  | .adjc _ => .command 0xFFFF0000#32 0x11000000#32
  | .adjf _ => .command 0xFFFF0000#32 0x12000000#32
  | .commit => .command 0xFFFFFFFF#32 0x13000000#32
  | .reload => .command 0xFFFFFFFF#32 0x14000000#32
  | .setpx _ _ _ _ => .command 0xFFFC0000#32 0x20000000#32
  | .fill _ _ => .command 0xFFFCFFFF#32 0x21000000#32
  | .derive => .command 0xFFFFFFFF#32 0x22000000#32
  | .resolve _ _ => .command 0xFFFFFFFC#32 0x23000000#32
  | .wrbyte _ _ _ => .command 0xFF000000#32 0x24000000#32
  | .rdbyte _ _ => .command 0xFF0000FF#32 0x25000000#32
  | .showEntry _ _ _ => .plan
  | .fetch => .phase 1#3
  | .park => .phase 2#3
  | .pwait => .phase 3#3
  | .load => .phase 4#3
  | .unpark => .phase 5#3
  | .xwait => .phase 6#3

/-- A code lies in a row. -/
def hits : Row → Code → Bool
  | .command mask pattern, .command w => w &&& mask == pattern
  | .plan, .plan _ => true
  | .phase p, .phase q => q == p
  | _, _ => false

/-- The instruction's word matches its own row of the table. -/
abbrev Statement (i : Instr) : Prop := hits (row i) (encode i) = true

/-- Words that agree in every one of their 32 bits are equal. -/
theorem eq_of_bits (v w : Word) (h : ∀ i : Fin 32, v.getLsbD i = w.getLsbD i) : v = w :=
  BitVec.eq_of_getLsbD_eq fun i hi => h ⟨i, hi⟩

theorem start : Statement .start := by decide
theorem stop : Statement .stop := by decide
theorem gson : Statement .gson := by decide
theorem gsoff : Statement .gsoff := by decide
theorem rdcsr (csr : Csr) : Statement (.rdcsr csr) := by cases csr <;> decide
theorem getcyc : Statement .getcyc := by decide
theorem adjc (delta : BitVec 16) : Statement (.adjc delta) := by
  simp only [Statement, hits, row, encode, commandWord, beq_iff_eq]
  apply eq_of_bits
  intro i
  simp only [BitVec.getLsbD_and, BitVec.getLsbD_cast, BitVec.getLsbD_append]
  fin_cases i <;> simp
theorem adjf (delta : BitVec 16) : Statement (.adjf delta) := by
  simp only [Statement, hits, row, encode, commandWord, beq_iff_eq]
  apply eq_of_bits
  intro i
  simp only [BitVec.getLsbD_and, BitVec.getLsbD_cast, BitVec.getLsbD_append]
  fin_cases i <;> simp
theorem commit : Statement .commit := by decide
theorem reload : Statement .reload := by decide
theorem setpx (layer : Layer) (x y : BitVec 8) (bit : Bool) : Statement (.setpx layer x y bit) := by
  simp only [Statement, hits, row, encode, commandWord, beq_iff_eq]
  apply eq_of_bits
  intro i
  simp only [BitVec.getLsbD_and, BitVec.getLsbD_cast, BitVec.getLsbD_append]
  cases layer <;> cases bit <;> fin_cases i <;> simp [layerBit]
theorem fill (layer : Layer) (bit : Bool) : Statement (.fill layer bit) := by
  cases layer <;> cases bit <;> decide
theorem derive : Statement .derive := by decide
theorem resolve (bitA bitB : Bool) : Statement (.resolve bitA bitB) := by
  cases bitA <;> cases bitB <;> decide
theorem wrbyte (buf : Buf) (index : BitVec 14) (value : Byte) : Statement (.wrbyte buf index value) := by
  simp only [Statement, hits, row, encode, commandWord, beq_iff_eq]
  apply eq_of_bits
  intro i
  simp only [BitVec.getLsbD_and, BitVec.getLsbD_cast, BitVec.getLsbD_append]
  fin_cases i <;> simp
theorem rdbyte (buf : Buf) (index : BitVec 14) : Statement (.rdbyte buf index) := by
  simp only [Statement, hits, row, encode, commandWord, beq_iff_eq]
  apply eq_of_bits
  intro i
  simp only [BitVec.getLsbD_and, BitVec.getLsbD_cast, BitVec.getLsbD_append]
  fin_cases i <;> simp
theorem showEntry (src : Buf) (num den : BitVec 7) : Statement (.showEntry src num den) := rfl
theorem fetch : Statement .fetch := by decide
theorem park : Statement .park := by decide
theorem pwait : Statement .pwait := by decide
theorem load : Statement .load := by decide
theorem unpark : Statement .unpark := by decide
theorem xwait : Statement .xwait := by decide

end Sys2Proof.Laws.TableRow
end

