-- ==== Sys2Proof/Laws/State.lean ====
section
/-!
SUPPORT. One lemma per field per named update of the state, so that no later proof unfolds a record update; the last two
of each update say what it does to the memory read and to the plan.
-/

namespace Sys2Proof.Machine

variable (s : State)

/-! ### withMem -/

@[simp] theorem State.withMem_cfg (m : Memory) : (s.withMem m).cfg = s.cfg := rfl
@[simp] theorem State.withMem_env (m : Memory) : (s.withMem m).env = s.env := rfl
@[simp] theorem State.withMem_run (m : Memory) : (s.withMem m).run = s.run := rfl
@[simp] theorem State.withMem_gs (m : Memory) : (s.withMem m).gs = s.gs := rfl
@[simp] theorem State.withMem_stopReq (m : Memory) : (s.withMem m).stopReq = s.stopReq := rfl
@[simp] theorem State.withMem_capErr (m : Memory) : (s.withMem m).capErr = s.capErr := rfl
@[simp] theorem State.withMem_stepIx (m : Memory) : (s.withMem m).stepIx = s.stepIx := rfl
@[simp] theorem State.withMem_phase (m : Memory) : (s.withMem m).phase = s.phase := rfl
@[simp] theorem State.withMem_curSrc (m : Memory) : (s.withMem m).curSrc = s.curSrc := rfl
@[simp] theorem State.withMem_curNum (m : Memory) : (s.withMem m).curNum = s.curNum := rfl
@[simp] theorem State.withMem_curDen (m : Memory) : (s.withMem m).curDen = s.curDen := rfl
@[simp] theorem State.withMem_lidx (m : Memory) : (s.withMem m).lidx = s.lidx := rfl
@[simp] theorem State.withMem_tx (m : Memory) : (s.withMem m).tx = s.tx := rfl
@[simp] theorem State.withMem_cycle (m : Memory) : (s.withMem m).cycle = s.cycle := rfl
@[simp] theorem State.withMem_terrCnt (m : Memory) : (s.withMem m).terrCnt = s.terrCnt := rfl
@[simp] theorem State.withMem_mem (m : Memory) : (s.withMem m).mem = m := rfl
@[simp] theorem State.withMem_hop (m : Memory) : (s.withMem m).hop = s.hop := rfl
@[simp] theorem State.withMem_nvValid (m : Memory) : (s.withMem m).nvValid = s.nvValid := rfl
@[simp] theorem State.withMem_nvCycle (m : Memory) : (s.withMem m).nvCycle = s.nvCycle := rfl
@[simp] theorem State.withMem_trace (m : Memory) : (s.withMem m).trace = s.trace := rfl
@[simp] theorem State.withMem_dmux (m : Memory) : (s.withMem m).dmux = s.dmux := rfl
@[simp] theorem State.withMem_dframe (m : Memory) : (s.withMem m).dframe = s.dframe := rfl
@[simp] theorem State.withMem_resp (m : Memory) : (s.withMem m).resp = s.resp := rfl
@[simp] theorem State.withMem_plan (m : Memory) : (s.withMem m).plan = s.plan := rfl

/-! ### respond -/

@[simp] theorem State.respond_cfg (c : Cause) (v : Word) : (s.respond c v).cfg = s.cfg := rfl
@[simp] theorem State.respond_env (c : Cause) (v : Word) : (s.respond c v).env = s.env := rfl
@[simp] theorem State.respond_run (c : Cause) (v : Word) : (s.respond c v).run = s.run := rfl
@[simp] theorem State.respond_gs (c : Cause) (v : Word) : (s.respond c v).gs = s.gs := rfl
@[simp] theorem State.respond_stopReq (c : Cause) (v : Word) : (s.respond c v).stopReq = s.stopReq := rfl
@[simp] theorem State.respond_capErr (c : Cause) (v : Word) : (s.respond c v).capErr = s.capErr := rfl
@[simp] theorem State.respond_stepIx (c : Cause) (v : Word) : (s.respond c v).stepIx = s.stepIx := rfl
@[simp] theorem State.respond_phase (c : Cause) (v : Word) : (s.respond c v).phase = s.phase := rfl
@[simp] theorem State.respond_curSrc (c : Cause) (v : Word) : (s.respond c v).curSrc = s.curSrc := rfl
@[simp] theorem State.respond_curNum (c : Cause) (v : Word) : (s.respond c v).curNum = s.curNum := rfl
@[simp] theorem State.respond_curDen (c : Cause) (v : Word) : (s.respond c v).curDen = s.curDen := rfl
@[simp] theorem State.respond_lidx (c : Cause) (v : Word) : (s.respond c v).lidx = s.lidx := rfl
@[simp] theorem State.respond_tx (c : Cause) (v : Word) : (s.respond c v).tx = s.tx := rfl
@[simp] theorem State.respond_cycle (c : Cause) (v : Word) : (s.respond c v).cycle = s.cycle := rfl
@[simp] theorem State.respond_terrCnt (c : Cause) (v : Word) : (s.respond c v).terrCnt = s.terrCnt := rfl
@[simp] theorem State.respond_mem (c : Cause) (v : Word) : (s.respond c v).mem = s.mem := rfl
@[simp] theorem State.respond_hop (c : Cause) (v : Word) : (s.respond c v).hop = s.hop := rfl
@[simp] theorem State.respond_nvValid (c : Cause) (v : Word) : (s.respond c v).nvValid = s.nvValid := rfl
@[simp] theorem State.respond_nvCycle (c : Cause) (v : Word) : (s.respond c v).nvCycle = s.nvCycle := rfl
@[simp] theorem State.respond_trace (c : Cause) (v : Word) : (s.respond c v).trace = s.trace := rfl
@[simp] theorem State.respond_dmux (c : Cause) (v : Word) : (s.respond c v).dmux = s.dmux := rfl
@[simp] theorem State.respond_dframe (c : Cause) (v : Word) : (s.respond c v).dframe = s.dframe := rfl
@[simp] theorem State.respond_resp (c : Cause) (v : Word) : (s.respond c v).resp = s.resp ++ [{ code := causeNumber c, val := v }] := rfl
@[simp] theorem State.respond_memRead (c : Cause) (v : Word) (i : Nat) : (s.respond c v).memRead i = s.memRead i := rfl
@[simp] theorem State.respond_plan (c : Cause) (v : Word) : (s.respond c v).plan = s.plan := rfl

/-! ### withHop -/

@[simp] theorem State.withHop_cfg (h : Hop) : (s.withHop h).cfg = s.cfg := rfl
@[simp] theorem State.withHop_env (h : Hop) : (s.withHop h).env = s.env := rfl
@[simp] theorem State.withHop_run (h : Hop) : (s.withHop h).run = s.run := rfl
@[simp] theorem State.withHop_gs (h : Hop) : (s.withHop h).gs = s.gs := rfl
@[simp] theorem State.withHop_stopReq (h : Hop) : (s.withHop h).stopReq = s.stopReq := rfl
@[simp] theorem State.withHop_capErr (h : Hop) : (s.withHop h).capErr = s.capErr := rfl
@[simp] theorem State.withHop_stepIx (h : Hop) : (s.withHop h).stepIx = s.stepIx := rfl
@[simp] theorem State.withHop_phase (h : Hop) : (s.withHop h).phase = s.phase := rfl
@[simp] theorem State.withHop_curSrc (h : Hop) : (s.withHop h).curSrc = s.curSrc := rfl
@[simp] theorem State.withHop_curNum (h : Hop) : (s.withHop h).curNum = s.curNum := rfl
@[simp] theorem State.withHop_curDen (h : Hop) : (s.withHop h).curDen = s.curDen := rfl
@[simp] theorem State.withHop_lidx (h : Hop) : (s.withHop h).lidx = s.lidx := rfl
@[simp] theorem State.withHop_tx (h : Hop) : (s.withHop h).tx = s.tx := rfl
@[simp] theorem State.withHop_cycle (h : Hop) : (s.withHop h).cycle = s.cycle := rfl
@[simp] theorem State.withHop_terrCnt (h : Hop) : (s.withHop h).terrCnt = s.terrCnt := rfl
@[simp] theorem State.withHop_mem (h : Hop) : (s.withHop h).mem = s.mem := rfl
@[simp] theorem State.withHop_hop (h : Hop) : (s.withHop h).hop = h := rfl
@[simp] theorem State.withHop_nvValid (h : Hop) : (s.withHop h).nvValid = s.nvValid := rfl
@[simp] theorem State.withHop_nvCycle (h : Hop) : (s.withHop h).nvCycle = s.nvCycle := rfl
@[simp] theorem State.withHop_trace (h : Hop) : (s.withHop h).trace = s.trace := rfl
@[simp] theorem State.withHop_dmux (h : Hop) : (s.withHop h).dmux = s.dmux := rfl
@[simp] theorem State.withHop_dframe (h : Hop) : (s.withHop h).dframe = s.dframe := rfl
@[simp] theorem State.withHop_resp (h : Hop) : (s.withHop h).resp = s.resp := rfl
@[simp] theorem State.withHop_memRead (h : Hop) (i : Nat) : (s.withHop h).memRead i = s.memRead i := rfl
@[simp] theorem State.withHop_plan (h : Hop) : (s.withHop h).plan = s.plan := rfl

/-! ### takeBus -/

@[simp] theorem State.takeBus_cfg : (s.takeBus).cfg = s.cfg := rfl
@[simp] theorem State.takeBus_env : (s.takeBus).env = s.env.takeBus := rfl
@[simp] theorem State.takeBus_run : (s.takeBus).run = s.run := rfl
@[simp] theorem State.takeBus_gs : (s.takeBus).gs = s.gs := rfl
@[simp] theorem State.takeBus_stopReq : (s.takeBus).stopReq = s.stopReq := rfl
@[simp] theorem State.takeBus_capErr : (s.takeBus).capErr = s.capErr := rfl
@[simp] theorem State.takeBus_stepIx : (s.takeBus).stepIx = s.stepIx := rfl
@[simp] theorem State.takeBus_phase : (s.takeBus).phase = s.phase := rfl
@[simp] theorem State.takeBus_curSrc : (s.takeBus).curSrc = s.curSrc := rfl
@[simp] theorem State.takeBus_curNum : (s.takeBus).curNum = s.curNum := rfl
@[simp] theorem State.takeBus_curDen : (s.takeBus).curDen = s.curDen := rfl
@[simp] theorem State.takeBus_lidx : (s.takeBus).lidx = s.lidx := rfl
@[simp] theorem State.takeBus_tx : (s.takeBus).tx = s.tx := rfl
@[simp] theorem State.takeBus_cycle : (s.takeBus).cycle = s.cycle := rfl
@[simp] theorem State.takeBus_terrCnt : (s.takeBus).terrCnt = s.terrCnt := rfl
@[simp] theorem State.takeBus_mem : (s.takeBus).mem = s.mem := rfl
@[simp] theorem State.takeBus_hop : (s.takeBus).hop = s.hop := rfl
@[simp] theorem State.takeBus_nvValid : (s.takeBus).nvValid = s.nvValid := rfl
@[simp] theorem State.takeBus_nvCycle : (s.takeBus).nvCycle = s.nvCycle := rfl
@[simp] theorem State.takeBus_trace : (s.takeBus).trace = s.trace := rfl
@[simp] theorem State.takeBus_dmux : (s.takeBus).dmux = s.dmux := rfl
@[simp] theorem State.takeBus_dframe : (s.takeBus).dframe = s.dframe := rfl
@[simp] theorem State.takeBus_resp : (s.takeBus).resp = s.resp := rfl
@[simp] theorem State.takeBus_memRead (i : Nat) : (s.takeBus).memRead i = s.memRead i := rfl
@[simp] theorem State.takeBus_plan : (s.takeBus).plan = s.plan := rfl

/-! ### takeNvRead -/

@[simp] theorem State.takeNvRead_cfg : (s.takeNvRead).cfg = s.cfg := rfl
@[simp] theorem State.takeNvRead_env : (s.takeNvRead).env = s.env.takeNvRead := rfl
@[simp] theorem State.takeNvRead_run : (s.takeNvRead).run = s.run := rfl
@[simp] theorem State.takeNvRead_gs : (s.takeNvRead).gs = s.gs := rfl
@[simp] theorem State.takeNvRead_stopReq : (s.takeNvRead).stopReq = s.stopReq := rfl
@[simp] theorem State.takeNvRead_capErr : (s.takeNvRead).capErr = s.capErr := rfl
@[simp] theorem State.takeNvRead_stepIx : (s.takeNvRead).stepIx = s.stepIx := rfl
@[simp] theorem State.takeNvRead_phase : (s.takeNvRead).phase = s.phase := rfl
@[simp] theorem State.takeNvRead_curSrc : (s.takeNvRead).curSrc = s.curSrc := rfl
@[simp] theorem State.takeNvRead_curNum : (s.takeNvRead).curNum = s.curNum := rfl
@[simp] theorem State.takeNvRead_curDen : (s.takeNvRead).curDen = s.curDen := rfl
@[simp] theorem State.takeNvRead_lidx : (s.takeNvRead).lidx = s.lidx := rfl
@[simp] theorem State.takeNvRead_tx : (s.takeNvRead).tx = s.tx := rfl
@[simp] theorem State.takeNvRead_cycle : (s.takeNvRead).cycle = s.cycle := rfl
@[simp] theorem State.takeNvRead_terrCnt : (s.takeNvRead).terrCnt = s.terrCnt := rfl
@[simp] theorem State.takeNvRead_mem : (s.takeNvRead).mem = s.mem := rfl
@[simp] theorem State.takeNvRead_hop : (s.takeNvRead).hop = s.hop := rfl
@[simp] theorem State.takeNvRead_nvValid : (s.takeNvRead).nvValid = s.nvValid := rfl
@[simp] theorem State.takeNvRead_nvCycle : (s.takeNvRead).nvCycle = s.nvCycle := rfl
@[simp] theorem State.takeNvRead_trace : (s.takeNvRead).trace = s.trace := rfl
@[simp] theorem State.takeNvRead_dmux : (s.takeNvRead).dmux = s.dmux := rfl
@[simp] theorem State.takeNvRead_dframe : (s.takeNvRead).dframe = s.dframe := rfl
@[simp] theorem State.takeNvRead_resp : (s.takeNvRead).resp = s.resp := rfl
@[simp] theorem State.takeNvRead_memRead (i : Nat) : (s.takeNvRead).memRead i = s.memRead i := rfl
@[simp] theorem State.takeNvRead_plan : (s.takeNvRead).plan = s.plan := rfl

/-! ### takeNvWrite -/

@[simp] theorem State.takeNvWrite_cfg : (s.takeNvWrite).cfg = s.cfg := rfl
@[simp] theorem State.takeNvWrite_env : (s.takeNvWrite).env = s.env.takeNvWrite := rfl
@[simp] theorem State.takeNvWrite_run : (s.takeNvWrite).run = s.run := rfl
@[simp] theorem State.takeNvWrite_gs : (s.takeNvWrite).gs = s.gs := rfl
@[simp] theorem State.takeNvWrite_stopReq : (s.takeNvWrite).stopReq = s.stopReq := rfl
@[simp] theorem State.takeNvWrite_capErr : (s.takeNvWrite).capErr = s.capErr := rfl
@[simp] theorem State.takeNvWrite_stepIx : (s.takeNvWrite).stepIx = s.stepIx := rfl
@[simp] theorem State.takeNvWrite_phase : (s.takeNvWrite).phase = s.phase := rfl
@[simp] theorem State.takeNvWrite_curSrc : (s.takeNvWrite).curSrc = s.curSrc := rfl
@[simp] theorem State.takeNvWrite_curNum : (s.takeNvWrite).curNum = s.curNum := rfl
@[simp] theorem State.takeNvWrite_curDen : (s.takeNvWrite).curDen = s.curDen := rfl
@[simp] theorem State.takeNvWrite_lidx : (s.takeNvWrite).lidx = s.lidx := rfl
@[simp] theorem State.takeNvWrite_tx : (s.takeNvWrite).tx = s.tx := rfl
@[simp] theorem State.takeNvWrite_cycle : (s.takeNvWrite).cycle = s.cycle := rfl
@[simp] theorem State.takeNvWrite_terrCnt : (s.takeNvWrite).terrCnt = s.terrCnt := rfl
@[simp] theorem State.takeNvWrite_mem : (s.takeNvWrite).mem = s.mem := rfl
@[simp] theorem State.takeNvWrite_hop : (s.takeNvWrite).hop = s.hop := rfl
@[simp] theorem State.takeNvWrite_nvValid : (s.takeNvWrite).nvValid = s.nvValid := rfl
@[simp] theorem State.takeNvWrite_nvCycle : (s.takeNvWrite).nvCycle = s.nvCycle := rfl
@[simp] theorem State.takeNvWrite_trace : (s.takeNvWrite).trace = s.trace := rfl
@[simp] theorem State.takeNvWrite_dmux : (s.takeNvWrite).dmux = s.dmux := rfl
@[simp] theorem State.takeNvWrite_dframe : (s.takeNvWrite).dframe = s.dframe := rfl
@[simp] theorem State.takeNvWrite_resp : (s.takeNvWrite).resp = s.resp := rfl
@[simp] theorem State.takeNvWrite_memRead (i : Nat) : (s.takeNvWrite).memRead i = s.memRead i := rfl
@[simp] theorem State.takeNvWrite_plan : (s.takeNvWrite).plan = s.plan := rfl

/-! ### takePick -/

@[simp] theorem State.takePick_cfg : (s.takePick).cfg = s.cfg := rfl
@[simp] theorem State.takePick_env : (s.takePick).env = s.env.takePick := rfl
@[simp] theorem State.takePick_run : (s.takePick).run = s.run := rfl
@[simp] theorem State.takePick_gs : (s.takePick).gs = s.gs := rfl
@[simp] theorem State.takePick_stopReq : (s.takePick).stopReq = s.stopReq := rfl
@[simp] theorem State.takePick_capErr : (s.takePick).capErr = s.capErr := rfl
@[simp] theorem State.takePick_stepIx : (s.takePick).stepIx = s.stepIx := rfl
@[simp] theorem State.takePick_phase : (s.takePick).phase = s.phase := rfl
@[simp] theorem State.takePick_curSrc : (s.takePick).curSrc = s.curSrc := rfl
@[simp] theorem State.takePick_curNum : (s.takePick).curNum = s.curNum := rfl
@[simp] theorem State.takePick_curDen : (s.takePick).curDen = s.curDen := rfl
@[simp] theorem State.takePick_lidx : (s.takePick).lidx = s.lidx := rfl
@[simp] theorem State.takePick_tx : (s.takePick).tx = s.tx := rfl
@[simp] theorem State.takePick_cycle : (s.takePick).cycle = s.cycle := rfl
@[simp] theorem State.takePick_terrCnt : (s.takePick).terrCnt = s.terrCnt := rfl
@[simp] theorem State.takePick_mem : (s.takePick).mem = s.mem := rfl
@[simp] theorem State.takePick_hop : (s.takePick).hop = s.hop := rfl
@[simp] theorem State.takePick_nvValid : (s.takePick).nvValid = s.nvValid := rfl
@[simp] theorem State.takePick_nvCycle : (s.takePick).nvCycle = s.nvCycle := rfl
@[simp] theorem State.takePick_trace : (s.takePick).trace = s.trace := rfl
@[simp] theorem State.takePick_dmux : (s.takePick).dmux = s.dmux := rfl
@[simp] theorem State.takePick_dframe : (s.takePick).dframe = s.dframe := rfl
@[simp] theorem State.takePick_resp : (s.takePick).resp = s.resp := rfl
@[simp] theorem State.takePick_memRead (i : Nat) : (s.takePick).memRead i = s.memRead i := rfl
@[simp] theorem State.takePick_plan : (s.takePick).plan = s.plan := rfl

/-! ### acceptWord -/

@[simp] theorem State.acceptWord_cfg (rest : List Word) : (s.acceptWord rest).cfg = s.cfg := rfl
@[simp] theorem State.acceptWord_env (rest : List Word) : (s.acceptWord rest).env = { s.env with words := rest } := rfl
@[simp] theorem State.acceptWord_run (rest : List Word) : (s.acceptWord rest).run = s.run := rfl
@[simp] theorem State.acceptWord_gs (rest : List Word) : (s.acceptWord rest).gs = s.gs := rfl
@[simp] theorem State.acceptWord_stopReq (rest : List Word) : (s.acceptWord rest).stopReq = s.stopReq := rfl
@[simp] theorem State.acceptWord_capErr (rest : List Word) : (s.acceptWord rest).capErr = s.capErr := rfl
@[simp] theorem State.acceptWord_stepIx (rest : List Word) : (s.acceptWord rest).stepIx = s.stepIx := rfl
@[simp] theorem State.acceptWord_phase (rest : List Word) : (s.acceptWord rest).phase = s.phase := rfl
@[simp] theorem State.acceptWord_curSrc (rest : List Word) : (s.acceptWord rest).curSrc = s.curSrc := rfl
@[simp] theorem State.acceptWord_curNum (rest : List Word) : (s.acceptWord rest).curNum = s.curNum := rfl
@[simp] theorem State.acceptWord_curDen (rest : List Word) : (s.acceptWord rest).curDen = s.curDen := rfl
@[simp] theorem State.acceptWord_lidx (rest : List Word) : (s.acceptWord rest).lidx = s.lidx := rfl
@[simp] theorem State.acceptWord_tx (rest : List Word) : (s.acceptWord rest).tx = s.tx := rfl
@[simp] theorem State.acceptWord_cycle (rest : List Word) : (s.acceptWord rest).cycle = s.cycle := rfl
@[simp] theorem State.acceptWord_terrCnt (rest : List Word) : (s.acceptWord rest).terrCnt = s.terrCnt := rfl
@[simp] theorem State.acceptWord_mem (rest : List Word) : (s.acceptWord rest).mem = s.mem := rfl
@[simp] theorem State.acceptWord_hop (rest : List Word) : (s.acceptWord rest).hop = s.hop := rfl
@[simp] theorem State.acceptWord_nvValid (rest : List Word) : (s.acceptWord rest).nvValid = s.nvValid := rfl
@[simp] theorem State.acceptWord_nvCycle (rest : List Word) : (s.acceptWord rest).nvCycle = s.nvCycle := rfl
@[simp] theorem State.acceptWord_trace (rest : List Word) : (s.acceptWord rest).trace = s.trace := rfl
@[simp] theorem State.acceptWord_dmux (rest : List Word) : (s.acceptWord rest).dmux = s.dmux := rfl
@[simp] theorem State.acceptWord_dframe (rest : List Word) : (s.acceptWord rest).dframe = s.dframe := rfl
@[simp] theorem State.acceptWord_resp (rest : List Word) : (s.acceptWord rest).resp = s.resp := rfl
@[simp] theorem State.acceptWord_memRead (rest : List Word) (i : Nat) : (s.acceptWord rest).memRead i = s.memRead i := rfl
@[simp] theorem State.acceptWord_plan (rest : List Word) : (s.acceptWord rest).plan = s.plan := rfl

/-! ### withNv -/

@[simp] theorem State.withNv_cfg (b : Bool) (v : Word) : (s.withNv b v).cfg = s.cfg := rfl
@[simp] theorem State.withNv_env (b : Bool) (v : Word) : (s.withNv b v).env = s.env := rfl
@[simp] theorem State.withNv_run (b : Bool) (v : Word) : (s.withNv b v).run = s.run := rfl
@[simp] theorem State.withNv_gs (b : Bool) (v : Word) : (s.withNv b v).gs = s.gs := rfl
@[simp] theorem State.withNv_stopReq (b : Bool) (v : Word) : (s.withNv b v).stopReq = s.stopReq := rfl
@[simp] theorem State.withNv_capErr (b : Bool) (v : Word) : (s.withNv b v).capErr = s.capErr := rfl
@[simp] theorem State.withNv_stepIx (b : Bool) (v : Word) : (s.withNv b v).stepIx = s.stepIx := rfl
@[simp] theorem State.withNv_phase (b : Bool) (v : Word) : (s.withNv b v).phase = s.phase := rfl
@[simp] theorem State.withNv_curSrc (b : Bool) (v : Word) : (s.withNv b v).curSrc = s.curSrc := rfl
@[simp] theorem State.withNv_curNum (b : Bool) (v : Word) : (s.withNv b v).curNum = s.curNum := rfl
@[simp] theorem State.withNv_curDen (b : Bool) (v : Word) : (s.withNv b v).curDen = s.curDen := rfl
@[simp] theorem State.withNv_lidx (b : Bool) (v : Word) : (s.withNv b v).lidx = s.lidx := rfl
@[simp] theorem State.withNv_tx (b : Bool) (v : Word) : (s.withNv b v).tx = s.tx := rfl
@[simp] theorem State.withNv_cycle (b : Bool) (v : Word) : (s.withNv b v).cycle = s.cycle := rfl
@[simp] theorem State.withNv_terrCnt (b : Bool) (v : Word) : (s.withNv b v).terrCnt = s.terrCnt := rfl
@[simp] theorem State.withNv_mem (b : Bool) (v : Word) : (s.withNv b v).mem = s.mem := rfl
@[simp] theorem State.withNv_hop (b : Bool) (v : Word) : (s.withNv b v).hop = s.hop := rfl
@[simp] theorem State.withNv_nvValid (b : Bool) (v : Word) : (s.withNv b v).nvValid = b := rfl
@[simp] theorem State.withNv_nvCycle (b : Bool) (v : Word) : (s.withNv b v).nvCycle = v := rfl
@[simp] theorem State.withNv_trace (b : Bool) (v : Word) : (s.withNv b v).trace = s.trace := rfl
@[simp] theorem State.withNv_dmux (b : Bool) (v : Word) : (s.withNv b v).dmux = s.dmux := rfl
@[simp] theorem State.withNv_dframe (b : Bool) (v : Word) : (s.withNv b v).dframe = s.dframe := rfl
@[simp] theorem State.withNv_resp (b : Bool) (v : Word) : (s.withNv b v).resp = s.resp := rfl
@[simp] theorem State.withNv_memRead (b : Bool) (v : Word) (i : Nat) : (s.withNv b v).memRead i = s.memRead i := rfl
@[simp] theorem State.withNv_plan (b : Bool) (v : Word) : (s.withNv b v).plan = s.plan := rfl

/-! ### advance -/

@[simp] theorem State.advance_cfg : (s.advance).cfg = s.cfg := rfl
@[simp] theorem State.advance_env : (s.advance).env = s.env := rfl
@[simp] theorem State.advance_run : (s.advance).run = s.run := rfl
@[simp] theorem State.advance_gs : (s.advance).gs = s.gs := rfl
@[simp] theorem State.advance_stopReq : (s.advance).stopReq = s.stopReq := rfl
@[simp] theorem State.advance_capErr : (s.advance).capErr = s.capErr := rfl
@[simp] theorem State.advance_stepIx : (s.advance).stepIx = s.nextStepIx := rfl
@[simp] theorem State.advance_phase : (s.advance).phase = phaseFetch := rfl
@[simp] theorem State.advance_curSrc : (s.advance).curSrc = s.curSrc := rfl
@[simp] theorem State.advance_curNum : (s.advance).curNum = s.curNum := rfl
@[simp] theorem State.advance_curDen : (s.advance).curDen = s.curDen := rfl
@[simp] theorem State.advance_lidx : (s.advance).lidx = s.lidx := rfl
@[simp] theorem State.advance_tx : (s.advance).tx = s.tx := rfl
@[simp] theorem State.advance_cycle : (s.advance).cycle = s.cycle := rfl
@[simp] theorem State.advance_terrCnt : (s.advance).terrCnt = s.terrCnt := rfl
@[simp] theorem State.advance_mem : (s.advance).mem = s.mem := rfl
@[simp] theorem State.advance_hop : (s.advance).hop = s.hop := rfl
@[simp] theorem State.advance_nvValid : (s.advance).nvValid = s.nvValid := rfl
@[simp] theorem State.advance_nvCycle : (s.advance).nvCycle = s.nvCycle := rfl
@[simp] theorem State.advance_trace : (s.advance).trace = s.trace := rfl
@[simp] theorem State.advance_dmux : (s.advance).dmux = s.dmux := rfl
@[simp] theorem State.advance_dframe : (s.advance).dframe = s.dframe := rfl
@[simp] theorem State.advance_resp : (s.advance).resp = s.resp := rfl
@[simp] theorem State.advance_memRead (i : Nat) : (s.advance).memRead i = s.memRead i := rfl
@[simp] theorem State.advance_plan : (s.advance).plan = s.plan := rfl

/-! ### withPhase -/

@[simp] theorem State.withPhase_cfg (p : BitVec 3) : (s.withPhase p).cfg = s.cfg := rfl
@[simp] theorem State.withPhase_env (p : BitVec 3) : (s.withPhase p).env = s.env := rfl
@[simp] theorem State.withPhase_run (p : BitVec 3) : (s.withPhase p).run = s.run := rfl
@[simp] theorem State.withPhase_gs (p : BitVec 3) : (s.withPhase p).gs = s.gs := rfl
@[simp] theorem State.withPhase_stopReq (p : BitVec 3) : (s.withPhase p).stopReq = s.stopReq := rfl
@[simp] theorem State.withPhase_capErr (p : BitVec 3) : (s.withPhase p).capErr = s.capErr := rfl
@[simp] theorem State.withPhase_stepIx (p : BitVec 3) : (s.withPhase p).stepIx = s.stepIx := rfl
@[simp] theorem State.withPhase_phase (p : BitVec 3) : (s.withPhase p).phase = p := rfl
@[simp] theorem State.withPhase_curSrc (p : BitVec 3) : (s.withPhase p).curSrc = s.curSrc := rfl
@[simp] theorem State.withPhase_curNum (p : BitVec 3) : (s.withPhase p).curNum = s.curNum := rfl
@[simp] theorem State.withPhase_curDen (p : BitVec 3) : (s.withPhase p).curDen = s.curDen := rfl
@[simp] theorem State.withPhase_lidx (p : BitVec 3) : (s.withPhase p).lidx = s.lidx := rfl
@[simp] theorem State.withPhase_tx (p : BitVec 3) : (s.withPhase p).tx = s.tx := rfl
@[simp] theorem State.withPhase_cycle (p : BitVec 3) : (s.withPhase p).cycle = s.cycle := rfl
@[simp] theorem State.withPhase_terrCnt (p : BitVec 3) : (s.withPhase p).terrCnt = s.terrCnt := rfl
@[simp] theorem State.withPhase_mem (p : BitVec 3) : (s.withPhase p).mem = s.mem := rfl
@[simp] theorem State.withPhase_hop (p : BitVec 3) : (s.withPhase p).hop = s.hop := rfl
@[simp] theorem State.withPhase_nvValid (p : BitVec 3) : (s.withPhase p).nvValid = s.nvValid := rfl
@[simp] theorem State.withPhase_nvCycle (p : BitVec 3) : (s.withPhase p).nvCycle = s.nvCycle := rfl
@[simp] theorem State.withPhase_trace (p : BitVec 3) : (s.withPhase p).trace = s.trace := rfl
@[simp] theorem State.withPhase_dmux (p : BitVec 3) : (s.withPhase p).dmux = s.dmux := rfl
@[simp] theorem State.withPhase_dframe (p : BitVec 3) : (s.withPhase p).dframe = s.dframe := rfl
@[simp] theorem State.withPhase_resp (p : BitVec 3) : (s.withPhase p).resp = s.resp := rfl
@[simp] theorem State.withPhase_memRead (p : BitVec 3) (i : Nat) : (s.withPhase p).memRead i = s.memRead i := rfl
@[simp] theorem State.withPhase_plan (p : BitVec 3) : (s.withPhase p).plan = s.plan := rfl

/-! ### pushEvent -/

@[simp] theorem State.pushEvent_cfg (e : Event) : (s.pushEvent e).cfg = s.cfg := rfl
@[simp] theorem State.pushEvent_env (e : Event) : (s.pushEvent e).env = s.env := rfl
@[simp] theorem State.pushEvent_run (e : Event) : (s.pushEvent e).run = s.run := rfl
@[simp] theorem State.pushEvent_gs (e : Event) : (s.pushEvent e).gs = s.gs := rfl
@[simp] theorem State.pushEvent_stopReq (e : Event) : (s.pushEvent e).stopReq = s.stopReq := rfl
@[simp] theorem State.pushEvent_capErr (e : Event) : (s.pushEvent e).capErr = s.capErr := rfl
@[simp] theorem State.pushEvent_stepIx (e : Event) : (s.pushEvent e).stepIx = s.stepIx := rfl
@[simp] theorem State.pushEvent_phase (e : Event) : (s.pushEvent e).phase = s.phase := rfl
@[simp] theorem State.pushEvent_curSrc (e : Event) : (s.pushEvent e).curSrc = s.curSrc := rfl
@[simp] theorem State.pushEvent_curNum (e : Event) : (s.pushEvent e).curNum = s.curNum := rfl
@[simp] theorem State.pushEvent_curDen (e : Event) : (s.pushEvent e).curDen = s.curDen := rfl
@[simp] theorem State.pushEvent_lidx (e : Event) : (s.pushEvent e).lidx = s.lidx := rfl
@[simp] theorem State.pushEvent_tx (e : Event) : (s.pushEvent e).tx = s.tx := rfl
@[simp] theorem State.pushEvent_cycle (e : Event) : (s.pushEvent e).cycle = s.cycle := rfl
@[simp] theorem State.pushEvent_terrCnt (e : Event) : (s.pushEvent e).terrCnt = s.terrCnt := rfl
@[simp] theorem State.pushEvent_mem (e : Event) : (s.pushEvent e).mem = s.mem := rfl
@[simp] theorem State.pushEvent_hop (e : Event) : (s.pushEvent e).hop = s.hop := rfl
@[simp] theorem State.pushEvent_nvValid (e : Event) : (s.pushEvent e).nvValid = s.nvValid := rfl
@[simp] theorem State.pushEvent_nvCycle (e : Event) : (s.pushEvent e).nvCycle = s.nvCycle := rfl
@[simp] theorem State.pushEvent_trace (e : Event) : (s.pushEvent e).trace = s.trace ++ [e] := rfl
@[simp] theorem State.pushEvent_dmux (e : Event) : (s.pushEvent e).dmux = s.dmux := rfl
@[simp] theorem State.pushEvent_dframe (e : Event) : (s.pushEvent e).dframe = s.dframe := rfl
@[simp] theorem State.pushEvent_resp (e : Event) : (s.pushEvent e).resp = s.resp := rfl
@[simp] theorem State.pushEvent_memRead (e : Event) (i : Nat) : (s.pushEvent e).memRead i = s.memRead i := rfl
@[simp] theorem State.pushEvent_plan (e : Event) : (s.pushEvent e).plan = s.plan := rfl

/-! ### clearTx -/

@[simp] theorem State.clearTx_cfg : (s.clearTx).cfg = s.cfg := rfl
@[simp] theorem State.clearTx_env : (s.clearTx).env = s.env := rfl
@[simp] theorem State.clearTx_run : (s.clearTx).run = s.run := rfl
@[simp] theorem State.clearTx_gs : (s.clearTx).gs = s.gs := rfl
@[simp] theorem State.clearTx_stopReq : (s.clearTx).stopReq = s.stopReq := rfl
@[simp] theorem State.clearTx_capErr : (s.clearTx).capErr = s.capErr := rfl
@[simp] theorem State.clearTx_stepIx : (s.clearTx).stepIx = s.stepIx := rfl
@[simp] theorem State.clearTx_phase : (s.clearTx).phase = s.phase := rfl
@[simp] theorem State.clearTx_curSrc : (s.clearTx).curSrc = s.curSrc := rfl
@[simp] theorem State.clearTx_curNum : (s.clearTx).curNum = s.curNum := rfl
@[simp] theorem State.clearTx_curDen : (s.clearTx).curDen = s.curDen := rfl
@[simp] theorem State.clearTx_lidx : (s.clearTx).lidx = 0 := rfl
@[simp] theorem State.clearTx_tx : (s.clearTx).tx = [] := rfl
@[simp] theorem State.clearTx_cycle : (s.clearTx).cycle = s.cycle := rfl
@[simp] theorem State.clearTx_terrCnt : (s.clearTx).terrCnt = s.terrCnt := rfl
@[simp] theorem State.clearTx_mem : (s.clearTx).mem = s.mem := rfl
@[simp] theorem State.clearTx_hop : (s.clearTx).hop = s.hop := rfl
@[simp] theorem State.clearTx_nvValid : (s.clearTx).nvValid = s.nvValid := rfl
@[simp] theorem State.clearTx_nvCycle : (s.clearTx).nvCycle = s.nvCycle := rfl
@[simp] theorem State.clearTx_trace : (s.clearTx).trace = s.trace := rfl
@[simp] theorem State.clearTx_dmux : (s.clearTx).dmux = s.dmux := rfl
@[simp] theorem State.clearTx_dframe : (s.clearTx).dframe = s.dframe := rfl
@[simp] theorem State.clearTx_resp : (s.clearTx).resp = s.resp := rfl
@[simp] theorem State.clearTx_memRead (i : Nat) : (s.clearTx).memRead i = s.memRead i := rfl
@[simp] theorem State.clearTx_plan : (s.clearTx).plan = s.plan := rfl

/-! ### pushTx -/

@[simp] theorem State.pushTx_cfg (v : Byte) : (s.pushTx v).cfg = s.cfg := rfl
@[simp] theorem State.pushTx_env (v : Byte) : (s.pushTx v).env = s.env := rfl
@[simp] theorem State.pushTx_run (v : Byte) : (s.pushTx v).run = s.run := rfl
@[simp] theorem State.pushTx_gs (v : Byte) : (s.pushTx v).gs = s.gs := rfl
@[simp] theorem State.pushTx_stopReq (v : Byte) : (s.pushTx v).stopReq = s.stopReq := rfl
@[simp] theorem State.pushTx_capErr (v : Byte) : (s.pushTx v).capErr = s.capErr := rfl
@[simp] theorem State.pushTx_stepIx (v : Byte) : (s.pushTx v).stepIx = s.stepIx := rfl
@[simp] theorem State.pushTx_phase (v : Byte) : (s.pushTx v).phase = s.phase := rfl
@[simp] theorem State.pushTx_curSrc (v : Byte) : (s.pushTx v).curSrc = s.curSrc := rfl
@[simp] theorem State.pushTx_curNum (v : Byte) : (s.pushTx v).curNum = s.curNum := rfl
@[simp] theorem State.pushTx_curDen (v : Byte) : (s.pushTx v).curDen = s.curDen := rfl
@[simp] theorem State.pushTx_lidx (v : Byte) : (s.pushTx v).lidx = s.lidx + 1 := rfl
@[simp] theorem State.pushTx_tx (v : Byte) : (s.pushTx v).tx = s.tx ++ [v] := rfl
@[simp] theorem State.pushTx_cycle (v : Byte) : (s.pushTx v).cycle = s.cycle := rfl
@[simp] theorem State.pushTx_terrCnt (v : Byte) : (s.pushTx v).terrCnt = s.terrCnt := rfl
@[simp] theorem State.pushTx_mem (v : Byte) : (s.pushTx v).mem = s.mem := rfl
@[simp] theorem State.pushTx_hop (v : Byte) : (s.pushTx v).hop = s.hop := rfl
@[simp] theorem State.pushTx_nvValid (v : Byte) : (s.pushTx v).nvValid = s.nvValid := rfl
@[simp] theorem State.pushTx_nvCycle (v : Byte) : (s.pushTx v).nvCycle = s.nvCycle := rfl
@[simp] theorem State.pushTx_trace (v : Byte) : (s.pushTx v).trace = s.trace := rfl
@[simp] theorem State.pushTx_dmux (v : Byte) : (s.pushTx v).dmux = s.dmux := rfl
@[simp] theorem State.pushTx_dframe (v : Byte) : (s.pushTx v).dframe = s.dframe := rfl
@[simp] theorem State.pushTx_resp (v : Byte) : (s.pushTx v).resp = s.resp := rfl
@[simp] theorem State.pushTx_memRead (v : Byte) (i : Nat) : (s.pushTx v).memRead i = s.memRead i := rfl
@[simp] theorem State.pushTx_plan (v : Byte) : (s.pushTx v).plan = s.plan := rfl

/-! ### withDmux -/

@[simp] theorem State.withDmux_cfg (r : Option Nat) : (s.withDmux r).cfg = s.cfg := rfl
@[simp] theorem State.withDmux_env (r : Option Nat) : (s.withDmux r).env = s.env := rfl
@[simp] theorem State.withDmux_run (r : Option Nat) : (s.withDmux r).run = s.run := rfl
@[simp] theorem State.withDmux_gs (r : Option Nat) : (s.withDmux r).gs = s.gs := rfl
@[simp] theorem State.withDmux_stopReq (r : Option Nat) : (s.withDmux r).stopReq = s.stopReq := rfl
@[simp] theorem State.withDmux_capErr (r : Option Nat) : (s.withDmux r).capErr = s.capErr := rfl
@[simp] theorem State.withDmux_stepIx (r : Option Nat) : (s.withDmux r).stepIx = s.stepIx := rfl
@[simp] theorem State.withDmux_phase (r : Option Nat) : (s.withDmux r).phase = s.phase := rfl
@[simp] theorem State.withDmux_curSrc (r : Option Nat) : (s.withDmux r).curSrc = s.curSrc := rfl
@[simp] theorem State.withDmux_curNum (r : Option Nat) : (s.withDmux r).curNum = s.curNum := rfl
@[simp] theorem State.withDmux_curDen (r : Option Nat) : (s.withDmux r).curDen = s.curDen := rfl
@[simp] theorem State.withDmux_lidx (r : Option Nat) : (s.withDmux r).lidx = s.lidx := rfl
@[simp] theorem State.withDmux_tx (r : Option Nat) : (s.withDmux r).tx = s.tx := rfl
@[simp] theorem State.withDmux_cycle (r : Option Nat) : (s.withDmux r).cycle = s.cycle := rfl
@[simp] theorem State.withDmux_terrCnt (r : Option Nat) : (s.withDmux r).terrCnt = s.terrCnt := rfl
@[simp] theorem State.withDmux_mem (r : Option Nat) : (s.withDmux r).mem = s.mem := rfl
@[simp] theorem State.withDmux_hop (r : Option Nat) : (s.withDmux r).hop = s.hop := rfl
@[simp] theorem State.withDmux_nvValid (r : Option Nat) : (s.withDmux r).nvValid = s.nvValid := rfl
@[simp] theorem State.withDmux_nvCycle (r : Option Nat) : (s.withDmux r).nvCycle = s.nvCycle := rfl
@[simp] theorem State.withDmux_trace (r : Option Nat) : (s.withDmux r).trace = s.trace := rfl
@[simp] theorem State.withDmux_dmux (r : Option Nat) : (s.withDmux r).dmux = r := rfl
@[simp] theorem State.withDmux_dframe (r : Option Nat) : (s.withDmux r).dframe = s.dframe := rfl
@[simp] theorem State.withDmux_resp (r : Option Nat) : (s.withDmux r).resp = s.resp := rfl
@[simp] theorem State.withDmux_memRead (r : Option Nat) (i : Nat) : (s.withDmux r).memRead i = s.memRead i := rfl
@[simp] theorem State.withDmux_plan (r : Option Nat) : (s.withDmux r).plan = s.plan := rfl

/-! ### withDframe -/

@[simp] theorem State.withDframe_cfg (f : Option (List Byte)) : (s.withDframe f).cfg = s.cfg := rfl
@[simp] theorem State.withDframe_env (f : Option (List Byte)) : (s.withDframe f).env = s.env := rfl
@[simp] theorem State.withDframe_run (f : Option (List Byte)) : (s.withDframe f).run = s.run := rfl
@[simp] theorem State.withDframe_gs (f : Option (List Byte)) : (s.withDframe f).gs = s.gs := rfl
@[simp] theorem State.withDframe_stopReq (f : Option (List Byte)) : (s.withDframe f).stopReq = s.stopReq := rfl
@[simp] theorem State.withDframe_capErr (f : Option (List Byte)) : (s.withDframe f).capErr = s.capErr := rfl
@[simp] theorem State.withDframe_stepIx (f : Option (List Byte)) : (s.withDframe f).stepIx = s.stepIx := rfl
@[simp] theorem State.withDframe_phase (f : Option (List Byte)) : (s.withDframe f).phase = s.phase := rfl
@[simp] theorem State.withDframe_curSrc (f : Option (List Byte)) : (s.withDframe f).curSrc = s.curSrc := rfl
@[simp] theorem State.withDframe_curNum (f : Option (List Byte)) : (s.withDframe f).curNum = s.curNum := rfl
@[simp] theorem State.withDframe_curDen (f : Option (List Byte)) : (s.withDframe f).curDen = s.curDen := rfl
@[simp] theorem State.withDframe_lidx (f : Option (List Byte)) : (s.withDframe f).lidx = s.lidx := rfl
@[simp] theorem State.withDframe_tx (f : Option (List Byte)) : (s.withDframe f).tx = s.tx := rfl
@[simp] theorem State.withDframe_cycle (f : Option (List Byte)) : (s.withDframe f).cycle = s.cycle := rfl
@[simp] theorem State.withDframe_terrCnt (f : Option (List Byte)) : (s.withDframe f).terrCnt = s.terrCnt := rfl
@[simp] theorem State.withDframe_mem (f : Option (List Byte)) : (s.withDframe f).mem = s.mem := rfl
@[simp] theorem State.withDframe_hop (f : Option (List Byte)) : (s.withDframe f).hop = s.hop := rfl
@[simp] theorem State.withDframe_nvValid (f : Option (List Byte)) : (s.withDframe f).nvValid = s.nvValid := rfl
@[simp] theorem State.withDframe_nvCycle (f : Option (List Byte)) : (s.withDframe f).nvCycle = s.nvCycle := rfl
@[simp] theorem State.withDframe_trace (f : Option (List Byte)) : (s.withDframe f).trace = s.trace := rfl
@[simp] theorem State.withDframe_dmux (f : Option (List Byte)) : (s.withDframe f).dmux = s.dmux := rfl
@[simp] theorem State.withDframe_dframe (f : Option (List Byte)) : (s.withDframe f).dframe = f := rfl
@[simp] theorem State.withDframe_resp (f : Option (List Byte)) : (s.withDframe f).resp = s.resp := rfl
@[simp] theorem State.withDframe_memRead (f : Option (List Byte)) (i : Nat) : (s.withDframe f).memRead i = s.memRead i := rfl
@[simp] theorem State.withDframe_plan (f : Option (List Byte)) : (s.withDframe f).plan = s.plan := rfl

/-! ### skip -/

@[simp] theorem State.skip_cfg (p : BusPhase) : (s.skip p).cfg = s.cfg := rfl
@[simp] theorem State.skip_env (p : BusPhase) : (s.skip p).env = s.env := rfl
@[simp] theorem State.skip_run (p : BusPhase) : (s.skip p).run = s.run := rfl
@[simp] theorem State.skip_gs (p : BusPhase) : (s.skip p).gs = s.gs := rfl
@[simp] theorem State.skip_stopReq (p : BusPhase) : (s.skip p).stopReq = s.stopReq := rfl
@[simp] theorem State.skip_capErr (p : BusPhase) : (s.skip p).capErr = s.capErr := rfl
@[simp] theorem State.skip_stepIx (p : BusPhase) : (s.skip p).stepIx = s.nextStepIx := rfl
@[simp] theorem State.skip_phase (p : BusPhase) : (s.skip p).phase = phaseFetch := rfl
@[simp] theorem State.skip_curSrc (p : BusPhase) : (s.skip p).curSrc = s.curSrc := rfl
@[simp] theorem State.skip_curNum (p : BusPhase) : (s.skip p).curNum = s.curNum := rfl
@[simp] theorem State.skip_curDen (p : BusPhase) : (s.skip p).curDen = s.curDen := rfl
@[simp] theorem State.skip_lidx (p : BusPhase) : (s.skip p).lidx = 0 := rfl
@[simp] theorem State.skip_tx (p : BusPhase) : (s.skip p).tx = [] := rfl
@[simp] theorem State.skip_cycle (p : BusPhase) : (s.skip p).cycle = s.cycle := rfl
@[simp] theorem State.skip_terrCnt (p : BusPhase) : (s.skip p).terrCnt = saturatingSucc s.terrCnt := rfl
@[simp] theorem State.skip_mem (p : BusPhase) : (s.skip p).mem = s.mem := rfl
@[simp] theorem State.skip_hop (p : BusPhase) : (s.skip p).hop = s.hop := rfl
@[simp] theorem State.skip_nvValid (p : BusPhase) : (s.skip p).nvValid = s.nvValid := rfl
@[simp] theorem State.skip_nvCycle (p : BusPhase) : (s.skip p).nvCycle = s.nvCycle := rfl
@[simp] theorem State.skip_trace (p : BusPhase) : (s.skip p).trace = s.trace ++ [.err p] := rfl
@[simp] theorem State.skip_dmux (p : BusPhase) : (s.skip p).dmux = s.dmux := rfl
@[simp] theorem State.skip_dframe (p : BusPhase) : (s.skip p).dframe = s.dframe := rfl
@[simp] theorem State.skip_resp (p : BusPhase) : (s.skip p).resp = s.resp := rfl
@[simp] theorem State.skip_memRead (p : BusPhase) (i : Nat) : (s.skip p).memRead i = s.memRead i := rfl
@[simp] theorem State.skip_plan (p : BusPhase) : (s.skip p).plan = s.plan := rfl

/-! ### reloadCycle -/

@[simp] theorem State.reloadCycle_cfg : (s.reloadCycle).cfg = s.cfg := rfl
@[simp] theorem State.reloadCycle_env : (s.reloadCycle).env = s.env.takeNvRead := rfl
@[simp] theorem State.reloadCycle_run : (s.reloadCycle).run = s.run := rfl
@[simp] theorem State.reloadCycle_gs : (s.reloadCycle).gs = s.gs := rfl
@[simp] theorem State.reloadCycle_stopReq : (s.reloadCycle).stopReq = s.stopReq := rfl
@[simp] theorem State.reloadCycle_capErr : (s.reloadCycle).capErr = s.capErr := rfl
@[simp] theorem State.reloadCycle_stepIx : (s.reloadCycle).stepIx = s.stepIx := rfl
@[simp] theorem State.reloadCycle_phase : (s.reloadCycle).phase = s.phase := rfl
@[simp] theorem State.reloadCycle_curSrc : (s.reloadCycle).curSrc = s.curSrc := rfl
@[simp] theorem State.reloadCycle_curNum : (s.reloadCycle).curNum = s.curNum := rfl
@[simp] theorem State.reloadCycle_curDen : (s.reloadCycle).curDen = s.curDen := rfl
@[simp] theorem State.reloadCycle_lidx : (s.reloadCycle).lidx = s.lidx := rfl
@[simp] theorem State.reloadCycle_tx : (s.reloadCycle).tx = s.tx := rfl
@[simp] theorem State.reloadCycle_cycle : (s.reloadCycle).cycle = s.loadCycle := rfl
@[simp] theorem State.reloadCycle_terrCnt : (s.reloadCycle).terrCnt = s.terrCnt := rfl
@[simp] theorem State.reloadCycle_mem : (s.reloadCycle).mem = s.mem := rfl
@[simp] theorem State.reloadCycle_hop : (s.reloadCycle).hop = s.hop := rfl
@[simp] theorem State.reloadCycle_nvValid : (s.reloadCycle).nvValid = s.nvValid := rfl
@[simp] theorem State.reloadCycle_nvCycle : (s.reloadCycle).nvCycle = s.nvCycle := rfl
@[simp] theorem State.reloadCycle_trace : (s.reloadCycle).trace = s.trace := rfl
@[simp] theorem State.reloadCycle_dmux : (s.reloadCycle).dmux = s.dmux := rfl
@[simp] theorem State.reloadCycle_dframe : (s.reloadCycle).dframe = s.dframe := rfl
@[simp] theorem State.reloadCycle_resp : (s.reloadCycle).resp = s.resp := rfl
@[simp] theorem State.reloadCycle_memRead (i : Nat) : (s.reloadCycle).memRead i = s.memRead i := rfl
@[simp] theorem State.reloadCycle_plan : (s.reloadCycle).plan = s.plan := rfl

/-! ### setCycle -/

@[simp] theorem State.setCycle_cfg (v : Word) : (s.setCycle v).cfg = s.cfg := rfl
@[simp] theorem State.setCycle_env (v : Word) : (s.setCycle v).env = s.env := rfl
@[simp] theorem State.setCycle_run (v : Word) : (s.setCycle v).run = s.run := rfl
@[simp] theorem State.setCycle_gs (v : Word) : (s.setCycle v).gs = s.gs := rfl
@[simp] theorem State.setCycle_stopReq (v : Word) : (s.setCycle v).stopReq = s.stopReq := rfl
@[simp] theorem State.setCycle_capErr (v : Word) : (s.setCycle v).capErr = s.capErr := rfl
@[simp] theorem State.setCycle_stepIx (v : Word) : (s.setCycle v).stepIx = s.stepIx := rfl
@[simp] theorem State.setCycle_phase (v : Word) : (s.setCycle v).phase = s.phase := rfl
@[simp] theorem State.setCycle_curSrc (v : Word) : (s.setCycle v).curSrc = s.curSrc := rfl
@[simp] theorem State.setCycle_curNum (v : Word) : (s.setCycle v).curNum = s.curNum := rfl
@[simp] theorem State.setCycle_curDen (v : Word) : (s.setCycle v).curDen = s.curDen := rfl
@[simp] theorem State.setCycle_lidx (v : Word) : (s.setCycle v).lidx = s.lidx := rfl
@[simp] theorem State.setCycle_tx (v : Word) : (s.setCycle v).tx = s.tx := rfl
@[simp] theorem State.setCycle_cycle (v : Word) : (s.setCycle v).cycle = v := rfl
@[simp] theorem State.setCycle_terrCnt (v : Word) : (s.setCycle v).terrCnt = s.terrCnt := rfl
@[simp] theorem State.setCycle_mem (v : Word) : (s.setCycle v).mem = s.mem := rfl
@[simp] theorem State.setCycle_hop (v : Word) : (s.setCycle v).hop = s.hop := rfl
@[simp] theorem State.setCycle_nvValid (v : Word) : (s.setCycle v).nvValid = s.nvValid := rfl
@[simp] theorem State.setCycle_nvCycle (v : Word) : (s.setCycle v).nvCycle = s.nvCycle := rfl
@[simp] theorem State.setCycle_trace (v : Word) : (s.setCycle v).trace = s.trace := rfl
@[simp] theorem State.setCycle_dmux (v : Word) : (s.setCycle v).dmux = s.dmux := rfl
@[simp] theorem State.setCycle_dframe (v : Word) : (s.setCycle v).dframe = s.dframe := rfl
@[simp] theorem State.setCycle_resp (v : Word) : (s.setCycle v).resp = s.resp ++ [{ code := causeNumber .ok, val := v }] := rfl
@[simp] theorem State.setCycle_memRead (v : Word) (i : Nat) : (s.setCycle v).memRead i = s.memRead i := rfl
@[simp] theorem State.setCycle_plan (v : Word) : (s.setCycle v).plan = s.plan := rfl

/-! ### launch -/

@[simp] theorem State.launch_cfg : (s.launch).cfg = s.cfg := rfl
@[simp] theorem State.launch_env : (s.launch).env = s.env := rfl
@[simp] theorem State.launch_run : (s.launch).run = true := rfl
@[simp] theorem State.launch_gs : (s.launch).gs = s.gs := rfl
@[simp] theorem State.launch_stopReq : (s.launch).stopReq = false := rfl
@[simp] theorem State.launch_capErr : (s.launch).capErr = s.capErr := rfl
@[simp] theorem State.launch_stepIx : (s.launch).stepIx = 0#2 := rfl
@[simp] theorem State.launch_phase : (s.launch).phase = phaseFetch := rfl
@[simp] theorem State.launch_curSrc : (s.launch).curSrc = s.curSrc := rfl
@[simp] theorem State.launch_curNum : (s.launch).curNum = s.curNum := rfl
@[simp] theorem State.launch_curDen : (s.launch).curDen = s.curDen := rfl
@[simp] theorem State.launch_lidx : (s.launch).lidx = s.lidx := rfl
@[simp] theorem State.launch_tx : (s.launch).tx = s.tx := rfl
@[simp] theorem State.launch_cycle : (s.launch).cycle = s.cycle := rfl
@[simp] theorem State.launch_terrCnt : (s.launch).terrCnt = s.terrCnt := rfl
@[simp] theorem State.launch_mem : (s.launch).mem = s.mem := rfl
@[simp] theorem State.launch_hop : (s.launch).hop = s.hop := rfl
@[simp] theorem State.launch_nvValid : (s.launch).nvValid = s.nvValid := rfl
@[simp] theorem State.launch_nvCycle : (s.launch).nvCycle = s.nvCycle := rfl
@[simp] theorem State.launch_trace : (s.launch).trace = s.trace := rfl
@[simp] theorem State.launch_dmux : (s.launch).dmux = s.dmux := rfl
@[simp] theorem State.launch_dframe : (s.launch).dframe = s.dframe := rfl
@[simp] theorem State.launch_resp : (s.launch).resp = s.resp := rfl
@[simp] theorem State.launch_memRead (i : Nat) : (s.launch).memRead i = s.memRead i := rfl
@[simp] theorem State.launch_plan : (s.launch).plan = s.plan := rfl

/-! ### latch -/

@[simp] theorem State.latch_cfg (buf : Buf) (n d : BitVec 7) : (s.latch buf n d).cfg = s.cfg := rfl
@[simp] theorem State.latch_env (buf : Buf) (n d : BitVec 7) : (s.latch buf n d).env = s.env := rfl
@[simp] theorem State.latch_run (buf : Buf) (n d : BitVec 7) : (s.latch buf n d).run = s.run := rfl
@[simp] theorem State.latch_gs (buf : Buf) (n d : BitVec 7) : (s.latch buf n d).gs = s.gs := rfl
@[simp] theorem State.latch_stopReq (buf : Buf) (n d : BitVec 7) : (s.latch buf n d).stopReq = s.stopReq := rfl
@[simp] theorem State.latch_capErr (buf : Buf) (n d : BitVec 7) : (s.latch buf n d).capErr = s.capErr := rfl
@[simp] theorem State.latch_stepIx (buf : Buf) (n d : BitVec 7) : (s.latch buf n d).stepIx = s.clippedStep := rfl
@[simp] theorem State.latch_phase (buf : Buf) (n d : BitVec 7) : (s.latch buf n d).phase = phasePark := rfl
@[simp] theorem State.latch_curSrc (buf : Buf) (n d : BitVec 7) : (s.latch buf n d).curSrc = bufCode buf := rfl
@[simp] theorem State.latch_curNum (buf : Buf) (n d : BitVec 7) : (s.latch buf n d).curNum = n := rfl
@[simp] theorem State.latch_curDen (buf : Buf) (n d : BitVec 7) : (s.latch buf n d).curDen = d := rfl
@[simp] theorem State.latch_lidx (buf : Buf) (n d : BitVec 7) : (s.latch buf n d).lidx = s.lidx := rfl
@[simp] theorem State.latch_tx (buf : Buf) (n d : BitVec 7) : (s.latch buf n d).tx = s.tx := rfl
@[simp] theorem State.latch_cycle (buf : Buf) (n d : BitVec 7) : (s.latch buf n d).cycle = s.cycle := rfl
@[simp] theorem State.latch_terrCnt (buf : Buf) (n d : BitVec 7) : (s.latch buf n d).terrCnt = s.terrCnt := rfl
@[simp] theorem State.latch_mem (buf : Buf) (n d : BitVec 7) : (s.latch buf n d).mem = s.mem := rfl
@[simp] theorem State.latch_hop (buf : Buf) (n d : BitVec 7) : (s.latch buf n d).hop = s.hop := rfl
@[simp] theorem State.latch_nvValid (buf : Buf) (n d : BitVec 7) : (s.latch buf n d).nvValid = s.nvValid := rfl
@[simp] theorem State.latch_nvCycle (buf : Buf) (n d : BitVec 7) : (s.latch buf n d).nvCycle = s.nvCycle := rfl
@[simp] theorem State.latch_trace (buf : Buf) (n d : BitVec 7) : (s.latch buf n d).trace = s.trace := rfl
@[simp] theorem State.latch_dmux (buf : Buf) (n d : BitVec 7) : (s.latch buf n d).dmux = s.dmux := rfl
@[simp] theorem State.latch_dframe (buf : Buf) (n d : BitVec 7) : (s.latch buf n d).dframe = s.dframe := rfl
@[simp] theorem State.latch_resp (buf : Buf) (n d : BitVec 7) : (s.latch buf n d).resp = s.resp := rfl
@[simp] theorem State.latch_memRead (buf : Buf) (n d : BitVec 7) (i : Nat) : (s.latch buf n d).memRead i = s.memRead i := rfl
@[simp] theorem State.latch_plan (buf : Buf) (n d : BitVec 7) : (s.latch buf n d).plan = s.plan := rfl

/-! ### exitEngine -/

@[simp] theorem State.exitEngine_cfg : (s.exitEngine).cfg = s.cfg := rfl
@[simp] theorem State.exitEngine_env : (s.exitEngine).env = s.env := rfl
@[simp] theorem State.exitEngine_run : (s.exitEngine).run = false := rfl
@[simp] theorem State.exitEngine_gs : (s.exitEngine).gs = s.gs := rfl
@[simp] theorem State.exitEngine_stopReq : (s.exitEngine).stopReq = false := rfl
@[simp] theorem State.exitEngine_capErr : (s.exitEngine).capErr = s.capErr := rfl
@[simp] theorem State.exitEngine_stepIx : (s.exitEngine).stepIx = s.stepIx := rfl
@[simp] theorem State.exitEngine_phase : (s.exitEngine).phase = phaseIdle := rfl
@[simp] theorem State.exitEngine_curSrc : (s.exitEngine).curSrc = s.curSrc := rfl
@[simp] theorem State.exitEngine_curNum : (s.exitEngine).curNum = s.curNum := rfl
@[simp] theorem State.exitEngine_curDen : (s.exitEngine).curDen = s.curDen := rfl
@[simp] theorem State.exitEngine_lidx : (s.exitEngine).lidx = s.lidx := rfl
@[simp] theorem State.exitEngine_tx : (s.exitEngine).tx = s.tx := rfl
@[simp] theorem State.exitEngine_cycle : (s.exitEngine).cycle = s.cycle := rfl
@[simp] theorem State.exitEngine_terrCnt : (s.exitEngine).terrCnt = s.terrCnt := rfl
@[simp] theorem State.exitEngine_mem : (s.exitEngine).mem = s.mem := rfl
@[simp] theorem State.exitEngine_hop : (s.exitEngine).hop = s.hop := rfl
@[simp] theorem State.exitEngine_nvValid : (s.exitEngine).nvValid = s.nvValid := rfl
@[simp] theorem State.exitEngine_nvCycle : (s.exitEngine).nvCycle = s.nvCycle := rfl
@[simp] theorem State.exitEngine_trace : (s.exitEngine).trace = s.trace := rfl
@[simp] theorem State.exitEngine_dmux : (s.exitEngine).dmux = s.dmux := rfl
@[simp] theorem State.exitEngine_dframe : (s.exitEngine).dframe = s.dframe := rfl
@[simp] theorem State.exitEngine_resp : (s.exitEngine).resp = s.resp := rfl
@[simp] theorem State.exitEngine_memRead (i : Nat) : (s.exitEngine).memRead i = s.memRead i := rfl
@[simp] theorem State.exitEngine_plan : (s.exitEngine).plan = s.plan := rfl

/-- A refusal is a response with value 0 (R231). -/
@[simp] theorem State.raise_eq (c : Cause) : s.raise c = s.respond c 0#32 := rfl

end Sys2Proof.Machine
end

