-- ==== Sys2Proof/Machine/Assembler.lean ====
section
/-!
DEFINITION. The textual form of the instructions (R113): `MNEMONIC operand, operand, ...`, numbers decimal or hexadecimal
with `0x`. No step reads it.
-/

namespace Sys2Proof.Machine

/-! ### Writing -/

/-- A decimal digit. -/
def digitChar (d : Nat) : Char := Char.ofNat (48 + d)

/-- The decimal digits of a number, most significant first; `fuel` bounds their count. -/
def decimalDigits : Nat → Nat → List Char
  | 0, _ => []
  | fuel + 1, n => if n < 10 then [digitChar n] else decimalDigits fuel (n / 10) ++ [digitChar (n % 10)]

/-- An unsigned operand, in decimal; every field of a command has at most 16 bits (R105). -/
def natText (n : Nat) : List Char := decimalDigits 5 n

/-- A signed operand, in decimal (R113: "delta a signed decimal"). -/
def intText (n : Int) : List Char := if n < 0 then '-' :: natText n.natAbs else natText n.natAbs

/-- `layer` is written A or B (R113). -/
def layerText : Layer → List Char
  | .a => ['A']
  | .b => ['B']

/-- `buf` is written A, B or C (R113). -/
def bufText : Buf → List Char
  | .a => ['A']
  | .b => ['B']
  | .c => ['C']

/-- `csr` by its name (R113). -/
def csrText : Csr → List Char
  | .status => "STATUS".toList
  | .cycle => "CYCLE".toList
  | .terrcnt => "TERRCNT".toList

/-- A one-bit operand. -/
def bitText (b : Bool) : List Char := if b then ['1'] else ['0']

/-- Operands joined by a comma and a space (R113). -/
def joinOperands : List (List Char) → List Char
  | [] => []
  | [x] => x
  | x :: rest => x ++ ',' :: ' ' :: joinOperands rest

/-- The operands of an instruction in the order of R113; SHOW as R110 writes it. -/
def operandTexts : Instr → List (List Char)
  | .rdcsr csr => [csrText csr]
  | .adjc delta => [intText delta.toInt]
  | .adjf delta => [intText delta.toInt]
  | .setpx layer x y bit => [layerText layer, natText x.toNat, natText y.toNat, bitText bit]
  | .fill layer bit => [layerText layer, bitText bit]
  | .resolve bitA bitB => [bitText bitA, bitText bitB]
  | .wrbyte buf index value => [bufText buf, natText index.toNat, natText value.toNat]
  | .rdbyte buf index => [bufText buf, natText index.toNat]
  | .showEntry src num den => [bufText src, natText num.toNat ++ '/' :: natText den.toNat]
  | .start => []
  | .stop => []
  | .gson => []
  | .gsoff => []
  | .getcyc => []
  | .commit => []
  | .reload => []
  | .derive => []
  | .fetch => []
  | .park => []
  | .pwait => []
  | .load => []
  | .unpark => []
  | .xwait => []

/-- The mnemonic of an instruction (R98, R160). -/
def mnemonicText : Instr → List Char
  | .start => "START".toList
  | .stop => "STOP".toList
  | .gson => "GSON".toList
  | .gsoff => "GSOFF".toList
  | .rdcsr _ => "RDCSR".toList
  | .getcyc => "GETCYC".toList
  | .adjc _ => "ADJC".toList
  | .adjf _ => "ADJF".toList
  | .commit => "COMMIT".toList
  | .reload => "RELOAD".toList
  | .setpx _ _ _ _ => "SETPX".toList
  | .fill _ _ => "FILL".toList
  | .derive => "DERIVE".toList
  | .resolve _ _ => "RESOLVE".toList
  | .wrbyte _ _ _ => "WRBYTE".toList
  | .rdbyte _ _ => "RDBYTE".toList
  | .showEntry _ _ _ => "SHOW".toList
  | .fetch => "FETCH".toList
  | .park => "PARK".toList
  | .pwait => "PWAIT".toList
  | .load => "LOAD".toList
  | .unpark => "UNPARK".toList
  | .xwait => "XWAIT".toList

/-- The text of an instruction (R113). -/
def asmText (i : Instr) : List Char :=
  match operandTexts i with
  | [] => mnemonicText i
  | ops => mnemonicText i ++ ' ' :: joinOperands ops

/-! ### Reading: the sixteen commands -/

/-- The value of a hexadecimal digit. -/
def digitValue (c : Char) : Option Nat :=
  let n := c.toNat
  if 48 ≤ n ∧ n ≤ 57 then some (n - 48)
  else if 65 ≤ n ∧ n ≤ 70 then some (n - 55)
  else if 97 ≤ n ∧ n ≤ 102 then some (n - 87)
  else none

/-- Digits in a base, on top of the value read so far. -/
def readDigits (base : Nat) : Nat → List Char → Option Nat
  | acc, [] => some acc
  | acc, c :: rest =>
    match digitValue c with
    | some d => if d < base then readDigits base (acc * base + d) rest else none
    | none => none

/-- A number below a bound: decimal, or hexadecimal with `0x` (R113). -/
def readNat (bound : Nat) (text : List Char) : Option Nat :=
  let value :=
    match text with
    | [] => none
    | ['0', 'x'] => none
    | '0' :: 'x' :: hex => readDigits 16 0 hex
    | dec => readDigits 10 0 dec
  value.filter (· < bound)

/-- A signed 16-bit operand (R92, R113); a plus sign may stand, as the spec's own examples write it. -/
def readDelta (text : List Char) : Option (BitVec 16) :=
  match text with
  | '-' :: mag => (readNat 32769 mag).map fun n => BitVec.ofInt 16 (-(n : Int))
  | '+' :: mag => (readNat 32768 mag).map fun n => BitVec.ofNat 16 n
  | mag => (readNat 32768 mag).map fun n => BitVec.ofNat 16 n

/-- `layer` (R113). -/
def readLayer (text : List Char) : Option Layer :=
  if text = ['A'] then some .a else if text = ['B'] then some .b else none

/-- `buf` (R113). -/
def readBuf (text : List Char) : Option Buf :=
  if text = ['A'] then some .a else if text = ['B'] then some .b else if text = ['C'] then some .c else none

/-- A bit. -/
def readBit (text : List Char) : Option Bool := (readNat 2 text).map (· == 1)

/-- `csr`: "a number or one of the names" (R113); a reserved number is no register (R41). -/
def readCsr (text : List Char) : Option Csr :=
  if text = csrText .status then some .status
  else if text = csrText .cycle then some .cycle
  else if text = csrText .terrcnt then some .terrcnt
  else (readNat 256 text).bind fun n => csrOfNumber (BitVec.ofNat 8 n)

/-- A text cut at every comma. -/
def cutCommas : List Char → List (List Char)
  | [] => [[]]
  | c :: rest =>
    if c = ',' then [] :: cutCommas rest
    else
      match cutCommas rest with
      | [] => [[c]]
      | first :: more => (c :: first) :: more

/-- A command from its mnemonic and its operands (R113). -/
def assembleParts (mnemonic : List Char) (ops : List (List Char)) : Option Instr :=
  match String.ofList mnemonic, ops with
  | "START", [] => some .start
  | "STOP", [] => some .stop
  | "GSON", [] => some .gson
  | "GSOFF", [] => some .gsoff
  | "RDCSR", [c] => (readCsr c).map .rdcsr
  | "GETCYC", [] => some .getcyc
  | "ADJC", [d] => (readDelta d).map .adjc
  | "ADJF", [d] => (readDelta d).map .adjf
  | "COMMIT", [] => some .commit
  | "RELOAD", [] => some .reload
  | "SETPX", [l, x, y, b] =>
    match readLayer l, readNat 256 x, readNat 256 y, readBit b with
    | some layer, some x, some y, some bit => some (.setpx layer (BitVec.ofNat 8 x) (BitVec.ofNat 8 y) bit)
    | _, _, _, _ => none
  | "FILL", [l, b] =>
    match readLayer l, readBit b with
    | some layer, some bit => some (.fill layer bit)
    | _, _ => none
  | "DERIVE", [] => some .derive
  | "RESOLVE", [a, b] =>
    match readBit a, readBit b with
    | some bitA, some bitB => some (.resolve bitA bitB)
    | _, _ => none
  | "WRBYTE", [b, i, v] =>
    match readBuf b, readNat 16384 i, readNat 256 v with
    | some buf, some index, some value => some (.wrbyte buf (BitVec.ofNat 14 index) (BitVec.ofNat 8 value))
    | _, _, _ => none
  | "RDBYTE", [b, i] =>
    match readBuf b, readNat 16384 i with
    | some buf, some index => some (.rdbyte buf (BitVec.ofNat 14 index))
    | _, _ => none
  | _, _ => none

/-- A command from its text: the mnemonic up to the first space, then the operands cut at commas, blanks dropped (R113).
DESIGN CHOICE on blanks and signs, safe: notes/assumptions/18.md. -/
def assemble (text : List Char) : Option Instr :=
  let rest := (text.dropWhile (· ≠ ' ')).filter (· ≠ ' ')
  assembleParts (text.takeWhile (· ≠ ' ')) (if rest = [] then [] else cutCommas rest)

end Sys2Proof.Machine
end

