-- ==== Sys2Proof/Tests/Slice0.lean ====
section
/-!
SUPPORT. The model's own tests. Expected values are those of spec/95_test_vectors.md, named by their ids, or are worked
out by hand from the rule named. Then, for each statement with hypotheses, a concrete state that meets them.
-/

namespace Sys2Proof.Tests

open Sys2Proof.Machine

/-! ### Well-formedness -/

theorem test_wellFormed_show : (Instr.showEntry .a 127#7 127#7).wellFormed = true := by decide
theorem test_wellFormed_refuses_zero_num : (Instr.showEntry .a 0#7 4#7).wellFormed = false := by decide
theorem test_wellFormed_refuses_zero_den : (Instr.showEntry .b 0#7 0#7).wellFormed = false := by decide
theorem test_wellFormed_refuses_den_zero_num_one : (Instr.showEntry .c 1#7 0#7).wellFormed = false := by decide
theorem test_wellFormed_refuses_more_than_one : (Instr.showEntry .c 5#7 4#7).wellFormed = false := by decide

/-! ### Decoding: one word per constructor, written out from the formats R91 to R97, R109, R110 -/

theorem test_decode_start : decodeCommand 0b00000001_000000000000000000000000#32 = .ok .start := by decide
theorem test_decode_stop : decodeCommand 0b00000010_000000000000000000000000#32 = .ok .stop := by decide
theorem test_decode_gson : decodeCommand 0b00000011_000000000000000000000000#32 = .ok .gson := by decide
theorem test_decode_gsoff : decodeCommand 0b00000100_000000000000000000000000#32 = .ok .gsoff := by decide
theorem test_decode_rdcsr :
    decodeCommand 0b00001000_0000000000000000_00000000#32 = .ok (.rdcsr .status) ∧
    decodeCommand 0b00001000_0000000000000000_00000001#32 = .ok (.rdcsr .cycle) ∧
    decodeCommand 0b00001000_0000000000000000_00000010#32 = .ok (.rdcsr .terrcnt) := by decide
theorem test_decode_getcyc : decodeCommand 0b00010000_000000000000000000000000#32 = .ok .getcyc := by decide
theorem test_decode_adjc : decodeCommand 0b00010001_00000000_1000000000000001#32 = .ok (.adjc 0x8001#16) := by decide
theorem test_decode_adjf : decodeCommand 0b00010010_00000000_1111111111111111#32 = .ok (.adjf (-1)) := by decide
theorem test_decode_commit : decodeCommand 0b00010011_000000000000000000000000#32 = .ok .commit := by decide
theorem test_decode_reload : decodeCommand 0b00010100_000000000000000000000000#32 = .ok .reload := by decide
/-- B1 and B4: layer in bit 17, bit in bit 16, x above y. -/
theorem test_decode_setpx :
    decodeCommand 0b00100000_000000_0_1_00000011_00001010#32 = .ok (.setpx .a 3#8 10#8 true) ∧
    decodeCommand 0b00100000_000000_1_0_01000111_00100111#32 = .ok (.setpx .b 71#8 39#8 false) := by decide
theorem test_decode_fill :
    decodeCommand 0b00100001_000000_1_0_0000000000000000#32 = .ok (.fill .b false) ∧
    decodeCommand 0b00100001_000000_0_1_0000000000000000#32 = .ok (.fill .a true) := by decide
theorem test_decode_derive : decodeCommand 0b00100010_000000000000000000000000#32 = .ok .derive := by decide
theorem test_decode_resolve :
    decodeCommand 0b00100011_0000000000000000000000_1_0#32 = .ok (.resolve true false) ∧
    decodeCommand 0b00100011_0000000000000000000000_0_1#32 = .ok (.resolve false true) := by decide
/-- B18 and B20. -/
theorem test_decode_wrbyte :
    decodeCommand 0b00100100_01_00000101100111_10000000#32 = .ok (.wrbyte .b 359#14 0x80#8) ∧
    decodeCommand 0b00100100_10_00000000000000_00000001#32 = .ok (.wrbyte .c 0#14 0x01#8) := by decide
/-- E18. -/
theorem test_decode_rdbyte :
    decodeCommand 0b00100101_00_11111111111111_00000000#32 = .ok (.rdbyte .a 16383#14) ∧
    decodeCommand 0b00100101_10_00000001001011_00000000#32 = .ok (.rdbyte .c 75#14) := by decide
/-- R8, R110: the entries of PLAN_GS. -/
theorem test_decode_show :
    decodePlanEntry 0b00_0000001_0000010#16 = .ok (.showEntry .a 1#7 2#7) ∧
    decodePlanEntry 0b01_0000001_0000100#16 = .ok (.showEntry .b 1#7 4#7) ∧
    decodePlanEntry 0b10_0000001_0000100#16 = .ok (.showEntry .c 1#7 4#7) := by decide
theorem test_decode_fetch : decodePhase 0b001#3 = .ok .fetch := by decide
theorem test_decode_park : decodePhase 0b010#3 = .ok .park := by decide
theorem test_decode_pwait : decodePhase 0b011#3 = .ok .pwait := by decide
theorem test_decode_load : decodePhase 0b100#3 = .ok .load := by decide
theorem test_decode_unpark : decodePhase 0b101#3 = .ok .unpark := by decide
theorem test_decode_xwait : decodePhase 0b110#3 = .ok .xwait := by decide

/-- E1 to E4. -/
theorem test_decode_rejects_opcodes :
    [0x00000000#32, 0xFFFFFFFF#32, 0x05000000#32, 0x26000000#32].map decodeCommand =
      List.replicate 4 (.error .reservedOpcode) := by decide
/-- E5 to E10, E12. -/
theorem test_decode_rejects_fields :
    [0x01000001#32, 0x11010000#32, 0x20040000#32, 0x21010001#32, 0x23000004#32, 0x25000001#32, 0x08000100#32].map
      decodeCommand = List.replicate 7 (.error .reservedField) := by decide
/-- E11, E13, E14. -/
theorem test_decode_rejects_values :
    [0x08000003#32, 0x24C00000#32, 0x25C00000#32].map decodeCommand = List.replicate 3 (.error .reservedValue) := by
  decide
/-- R110: `src = 3`, `num = 0`, `den = 0`, `num > den`. -/
theorem test_decode_rejects_entries :
    decodePlanEntry 0b11_0000001_0000010#16 = .error .reservedValue ∧
    decodePlanEntry 0b00_0000000_0000010#16 = .error .illFormedFraction ∧
    decodePlanEntry 0b00_0000001_0000000#16 = .error .illFormedFraction ∧
    decodePlanEntry 0b00_0000101_0000100#16 = .error .illFormedFraction := by decide
/-- R26: IDLE is no micro-operation, 7 is reserved. -/
theorem test_decode_rejects_phases :
    decodePhase 0b000#3 = .error .noMicroOp ∧ decodePhase 0b111#3 = .error .noMicroOp := by decide

/-- The table's numbering: a command fills four bytes, a plan entry two, a phase code one. -/
theorem test_decodeTableWord :
    decodeTableWord 32 0x2001030A = some (.setpx .a 3#8 10#8 true) ∧
    decodeTableWord 16 0x4084 = some (.showEntry .b 1#7 4#7) ∧ decodeTableWord 8 5 = some .unpark ∧
    decodeTableWord 8 9 = none := by decide

/-! ### The textual form (R113) -/

theorem test_assemble_setpx : assemble "SETPX A, 3, 10, 1".toList = some (.setpx .a 3#8 10#8 true) := by decide
theorem test_assemble_hex : assemble "WRBYTE B, 359, 0x80".toList = some (.wrbyte .b 359#14 0x80#8) := by decide
theorem test_assemble_signed : assemble "ADJC -273".toList = some (.adjc 0xFEEF#16) := by decide
theorem test_asmText : asmText (.setpx .a 3#8 10#8 true) = "SETPX A, 3, 10, 1".toList := by decide

/-! ### Small states -/

/-- The default configuration with one column: `N = 5`, the bus bytes and durations as in the default. -/
def small : Config := { Config.default with w := 1 }

/-- One byte per buffer. -/
def single : Config := { Config.default with w := 1, h := 8 }

/-- `Reset(empty)` in a configuration, with one pick, words and bus answers to come. -/
def start (cfg : Config) (p : Pick) (words : List Word) (bus : List BusAnswer) : State :=
  { State.reset with
    cfg := cfg
    env := { Env.empty with
      picks := [p], words := words, bus := bus, nvReads := [.ok, .ok], nvWrites := [.ok] } }

/-- The state of the vectors Q and T: running at a phase with the entry `(A, 1, 2)` latched and the shadow as the phases
before leave it, `N = 5`. -/
def engineAt (p : BitVec 3) (bus : List BusAnswer) : State :=
  { start small .engine [] bus with
    run := true
    phase := p
    curNum := 1#7
    curDen := 2#7
    dmux := if p = phaseXwait then some 57 else if p = phaseFetch ∨ p = phasePark then none else some 1
    dframe := if p = phaseUnpark ∨ p = phaseXwait then some [0#8, 0#8, 0#8, 0#8, 0#8] else none }

/-- The engine about to transmit five gathered bytes. -/
def transmitting (bus : List BusAnswer) : State :=
  { engineAt phaseLoad bus with lidx := 5, tx := [1#8, 2#8, 3#8, 4#8, 5#8] }

/-- Layer A holds F0 and layer B 3C in byte 3, five bytes a buffer. -/
def drawn : Memory := [(3, 0xF0#8), (8, 0x3C#8)]

/-- Whether a result is a next state with a property. -/
def gives (r : Result) (p : State → Bool) : Bool :=
  match r with
  | .next t => p t
  | .fault _ => false
  | .refused _ => false

theorem gives_next (r : Result) (p : State → Bool) (h : gives r p = true) : ∃ t, r = .next t ∧ p t = true := by
  cases r with
  | next t => exact ⟨t, rfl, h⟩
  | fault _ => cases h
  | refused _ => cases h

/-! ### Reset -/

/-- Z1: STATUS 2, CYCLE 27400. -/
theorem test_reset_registers :
    State.reset.status = 0x00000002#32 ∧ State.reset.cycle = 27400#32 ∧ State.reset.terrCnt = 0#32 := by decide
/-- Z2, Z3, Z5. -/
theorem test_reset_sequence :
    let s := { start small (.reset true) [] [] with nvValid := true, nvCycle := 27699#32 }
    (resetSequence true s).cycle = 27699#32 ∧
    (resetSequence true { s with env := { s.env with nvReads := [.fail] } }).cycle = 27400#32 ∧
    (resetSequence false s).status = 0x0000000A#32 := by decide

/-! ### Commands, one step each -/

/-- L1. -/
theorem test_start :
    gives (step (start .default .host [0x01000000#32] []))
      (fun t => t.status = 0x00000083#32 ∧ t.resp = [⟨0#8, 0#32⟩] ∧ t.trace = []) = true := by decide
/-- L2. -/
theorem test_start_running :
    gives (exec .start (engineAt phaseLoad [])) (fun t => t.phase = 4#3 ∧ t.resp = [⟨0#8, 0#32⟩]) = true := by decide
/-- L3, first half. -/
theorem test_stop_running :
    gives (exec .stop (engineAt phaseFetch []))
      (fun t => t.stopReq = true ∧ t.hop = .stopwait ∧ t.resp = []) = true := by decide
/-- L4. -/
theorem test_stop_stopped :
    gives (exec .stop (start small .host [] [])) (fun t => t.stopReq = false ∧ t.resp = [⟨0#8, 0#32⟩]) = true := by
  decide
/-- L6. -/
theorem test_gson :
    gives (exec .gson { start small .host [] [] with gs := false }) (fun t => t.status = 2#32) = true := by decide
/-- L5. -/
theorem test_gsoff : gives (exec .gsoff (start small .host [] [])) (fun t => t.status = 0#32) = true := by decide
/-- L7. -/
theorem test_rdcsr_cycle :
    gives (exec (.rdcsr .cycle) (start small .host [] [])) (fun t => t.resp = [⟨0#8, 27400#32⟩]) = true := by decide
/-- X1, and L8 for the bits of STATUS. -/
theorem test_rdcsr_status :
    gives (exec (.rdcsr .status) (resetSequence false (start small .host [] [])))
      (fun t => t.resp = [⟨0#8, 0x0000000A#32⟩]) = true ∧
    { engineAt phasePark [] with stopReq := true, stepIx := 2#2, curSrc := 2#2 }.status = 0x00000947#32 := by decide
/-- K1. -/
theorem test_getcyc :
    gives (exec .getcyc (start small .host [] [])) (fun t => t.resp = [⟨0#8, 27400#32⟩]) = true := by decide
/-- K6, E17. -/
theorem test_adjc :
    gives (exec (.adjc 0xFEEF#16) (start small .host [] [])) (fun t => t.resp = [⟨0#8, 100#32⟩]) = true ∧
    gives (exec (.adjc 0x7FFF#16) (start small .host [] [])) (fun t => t.cycle = 3304100#32) = true := by decide
/-- E16, K10. -/
theorem test_adjc_saturates :
    gives (exec (.adjc 0x8000#16) (start small .host [] [])) (fun t => t.cycle = 1#32) = true ∧
    gives (exec (.adjc 1#16) { start small .host [] [] with cycle := 4294967200#32 })
      (fun t => t.resp = [⟨0#8, 4294967295#32⟩]) = true := by decide
/-- K4. -/
theorem test_adjf :
    gives (exec (.adjf 0xFFFF#16) { start small .host [] [] with cycle := 27700#32 })
      (fun t => t.resp = [⟨0#8, 27699#32⟩]) = true := by decide
/-- K8, K9. -/
theorem test_adjf_bound :
    gives (exec (.adjf 0x94F8#16) (start small .host [] [])) (fun t => t.cycle = 1#32) = true ∧
    gives (exec (.adjf 0xFFFF#16) { start small .host [] [] with cycle := 1#32 }) (fun t => t.cycle = 1#32) = true := by
  decide
/-- K16. -/
theorem test_commit :
    gives (exec .commit { start small .host [] [] with cycle := 27699#32 })
      (fun t => t.nvValid = true ∧ t.nvCycle = 27699#32 ∧ t.resp = [⟨0#8, 27699#32⟩]) = true := by decide
/-- K11, X8: no draw is made. -/
theorem test_commit_running :
    gives (exec .commit (engineAt phaseLoad []))
      (fun t => t.nvValid = false ∧ t.env.nvWrites = [.ok] ∧ t.resp = [⟨3#8, 0#32⟩]) = true := by decide
/-- K14. -/
theorem test_reload :
    gives (exec .reload { start small .host [] [] with nvValid := true, nvCycle := 30000#32 })
      (fun t => t.cycle = 30000#32 ∧ t.resp = [⟨0#8, 30000#32⟩]) = true := by decide
/-- K15. -/
theorem test_reload_below_minimum :
    gives (exec .reload { start small .host [] [] with nvValid := true, nvCycle := 0#32, cycle := 5#32 })
      (fun t => t.cycle = 27400#32) = true := by decide
/-- B4: B[359] lies at linear address 360 + 359. -/
theorem test_setpx :
    gives (exec (.setpx .b 71#8 39#8 true) (start .default .host [] []))
      (fun t => t.mem = [(719, 0x80#8)] ∧ t.resp = [⟨0#8, 0#32⟩]) = true := by decide
/-- B2 (after B1), B6. -/
theorem test_setpx_clear :
    gives (exec (.setpx .a 3#8 10#8 false) { start .default .host [] [] with mem := [(75, 0x04#8)] })
      (fun t => t.mem = []) = true ∧
    gives (exec (.setpx .a 72#8 0#8 true) (start .default .host [] []))
      (fun t => t.mem = [] ∧ t.resp = [⟨3#8, 0#32⟩]) = true := by decide
/-- R121: the first of the `N` micro-steps. -/
theorem test_fill :
    gives (exec (.fill .b true) (start small .host [] []))
      (fun t => t.mem = [(5, 0xFF#8)] ∧ t.hop = .fill .b 0xFF#8 1 ∧ t.resp = []) = true := by decide
/-- R121: the last of the `N` micro-steps answers. -/
theorem test_fill_last :
    gives (step { start small .host [] [] with hop := .fill .a 0xFF#8 4 })
      (fun t => t.mem = [(4, 0xFF#8)] ∧ t.hop = .none ∧ t.resp = [⟨0#8, 0#32⟩]) = true := by decide
/-- B15: `0xF0 & 0x3C = 0x30`. -/
theorem test_derive :
    gives (step { start small .host [] [] with hop := .derive 3, mem := drawn })
      (fun t => t.mem = [(3, 0xF0#8), (8, 0x3C#8), (13, 0x30#8)] ∧ t.hop = .derive 4) = true := by decide
/-- R122: the first micro-step. -/
theorem test_derive_first :
    gives (exec .derive { start small .host [] [] with mem := [(0, 7#8), (5, 5#8)] })
      (fun t => t.mem = [(0, 7#8), (5, 5#8), (10, 5#8)] ∧ t.hop = .derive 1) = true := by decide
/-- B10, B11. -/
theorem test_resolve :
    gives (exec (.resolve false true) (start small .host [] [])) (fun t => t.resp = [⟨0#8, 1#32⟩]) = true ∧
    gives (exec (.resolve true false) (start small .host [] [])) (fun t => t.resp = [⟨0#8, 2#32⟩]) = true := by decide
/-- B18. -/
theorem test_wrbyte :
    gives (exec (.wrbyte .b 359#14 0x80#8) (start .default .host [] []))
      (fun t => t.mem = [(719, 0x80#8)] ∧ t.resp = [⟨0#8, 0#32⟩]) = true := by decide
/-- B19, B20. -/
theorem test_wrbyte_refused :
    gives (exec (.wrbyte .a 360#14 0#8) (start .default .host [] [])) (fun t => t.resp = [⟨3#8, 0#32⟩]) = true ∧
    gives (exec (.wrbyte .c 0#14 1#8) (start .default .host [] []))
      (fun t => t.mem = [] ∧ t.resp = [⟨3#8, 0#32⟩]) = true := by decide
/-- B22. -/
theorem test_rdbyte :
    gives (exec (.rdbyte .a 75#14) { start .default .host [] [] with mem := [(75, 0x04#8)] })
      (fun t => t.resp = [⟨0#8, 4#32⟩]) = true := by decide
/-- B21. -/
theorem test_rdbyte_refused :
    gives (exec (.rdbyte .a 360#14) (start .default .host [] [])) (fun t => t.resp = [⟨3#8, 0#32⟩]) = true := by decide
/-- X4, X5: decoding comes before the capability, the capability before the precondition. -/
theorem test_priority :
    gives (step { start .default .host [0x24C00000#32] [] with capErr := true })
      (fun t => t.resp = [⟨1#8, 0#32⟩]) = true ∧
    gives (step { start .default .host [0x20014800#32] [] with capErr := true })
      (fun t => t.resp = [⟨2#8, 0#32⟩]) = true := by decide

/-! ### The engine, one step each -/

/-- T10. -/
theorem test_fetch :
    gives (step { engineAt phaseFetch [] with stepIx := 1#2 })
      (fun t => t.status = 0x00000523#32 ∧ t.curNum = 1#7 ∧ t.curDen = 4#7) = true := by decide
/-- T12. -/
theorem test_fetch_clips :
    gives (step { engineAt phaseFetch [] with stepIx := 2#2, gs := false })
      (fun t => t.status = 0x00000101#32 ∧ t.curDen = 1#7) = true := by decide
/-- Q1, and R111 for two other operand forms: a table, and the row count itself. -/
theorem test_park :
    gives (step (engineAt phasePark [.ok]))
      (fun t => t.trace = [.cmd [0xA8#8, 0x00#8]] ∧ t.dmux = some 1 ∧ t.phase = 3#3) = true ∧
    gives (step { engineAt phasePark [.ok] with cfg := { small with muxOperand := .table [0x3F#8] } })
      (fun t => t.trace = [.cmd [0xA8#8, 0x3F#8]]) = true ∧
    gives (step { engineAt phasePark [.ok] with cfg := { small with muxOperand := .rowsMinus 0 } })
      (fun t => t.trace = [.cmd [0xA8#8, 0x01#8]]) = true := by decide
/-- Q2. -/
theorem test_park_error :
    gives (step (engineAt phasePark [.err]))
      (fun t => t.trace = [.err .park] ∧ t.dmux = none ∧ t.status = 0x000000B3#32) = true := by decide
/-- T1. -/
theorem test_pwait :
    gives (step (engineAt phasePwait [])) (fun t => t.trace = [.wait 1141] ∧ t.phase = 4#3) = true := by decide
/-- R142, with `CUR_SRC = 1`: byte 3 of layer B. -/
theorem test_load_reads :
    gives (step { engineAt phaseLoad [] with curSrc := 1#2, lidx := 3, tx := [0#8, 0#8, 0#8], mem := drawn })
      (fun t => t.tx = [0#8, 0#8, 0#8, 0x3C#8] ∧ t.lidx = 4 ∧ t.phase = 4#3) = true := by decide
/-- Q5, Q6. -/
theorem test_load_transmits :
    gives (step (transmitting [.ok]))
      (fun t => t.trace = [.data [1#8, 2#8, 3#8, 4#8, 5#8]] ∧ t.dframe = some [1#8, 2#8, 3#8, 4#8, 5#8] ∧ t.tx = [] ∧
        t.phase = 5#3) = true ∧
    gives (step (transmitting [.err]))
      (fun t => t.trace = [.err .load] ∧ t.dframe = none ∧ t.dmux = some 1 ∧ t.stepIx = 1#2 ∧ t.terrCnt = 1#32) = true := by
  decide
/-- Q3, Q7. -/
theorem test_unpark :
    gives (step (engineAt phaseUnpark [.ok]))
      (fun t => t.trace = [.cmd [0xA8#8, 0x38#8]] ∧ t.dmux = some 57 ∧ t.phase = 6#3) = true ∧
    gives (step { engineAt phaseUnpark [.ok] with cfg := { small with extraA := [0x81#8, 0x7F#8] } })
      (fun t => t.trace = [.cmd [0xA8#8, 0x38#8, 0x81#8, 0x7F#8]]) = true := by decide
/-- X9. -/
theorem test_unpark_error_saturates :
    gives (step { engineAt phaseUnpark [.err] with terrCnt := 4294967295#32 })
      (fun t => t.trace = [.err .unpark] ∧ t.terrCnt = 4294967295#32 ∧ t.phase = 1#3) = true := by decide
/-- T13. -/
theorem test_xwait :
    gives (step { engineAt phaseXwait [] with stepIx := 2#2, curDen := 4#7 })
      (fun t => t.trace = [.wait 6850] ∧ t.stepIx = 0#2 ∧ t.phase = 1#3) = true := by decide
/-- T15. -/
theorem test_xwait_plain :
    gives (step { engineAt phaseXwait [] with curDen := 1#7 })
      (fun t => t.trace = [.wait 27400] ∧ t.stepIx = 1#2) = true := by decide
/-- R145, R160: the five events of one sub-frame step. -/
theorem test_show :
    gives (exec (.showEntry .b 1#7 4#7) { engineAt phaseFetch [.ok, .ok, .ok] with stepIx := 1#2, mem := drawn })
      (fun t => t.trace =
          [.cmd [0xA8#8, 0x00#8], .wait 1141, .data [0#8, 0#8, 0#8, 0x3C#8, 0#8], .cmd [0xA8#8, 0x38#8], .wait 6850] ∧
        t.stepIx = 2#2 ∧ t.phase = 1#3) = true := by decide
/-- T11. -/
theorem test_show_stop :
    gives (exec (.showEntry .a 1#7 2#7) { engineAt phaseFetch [] with stopReq := true })
      (fun t => t.run = false ∧ t.stopReq = false ∧ t.phase = 0#3 ∧ t.trace = []) = true := by decide

/-- Placed words run as the first instruction after reset. -/
theorem test_withFetchWord :
    gives (step (State.reset.withFetchWord 32 0x11000001)) (fun t => t.cycle = 27500#32) = true ∧
    gives (step (State.reset.withFetchWord 8 3)) (fun t => t.trace = [.wait 1141]) = true ∧
    nextMove (State.reset.withFetchWord 16 0x4084) matches .run (.showEntry .b _ _) _ := by
  refine ⟨by decide, by decide, by rfl⟩

/-- R61, U12 b: the stops of states that no run reaches. -/
theorem test_faults :
    step { engineAt 7#3 [] with stepIx := 0#2 } = .fault .reservedState ∧
    step { engineAt phaseXwait [] with curDen := 0#7 } = .fault .reservedState ∧
    (start small .host [] []).memRead 15 = none := by
  refine ⟨by rfl, by rfl, by decide⟩

/-! ### A decidable form of the invariant, for the witnesses -/

/-- The fields of the invariant but for the configuration. -/
def invariantCheck (s : State) : Bool :=
  decide (s.mem.wf ∧ (∀ c ∈ s.mem, c.1 < 3 * s.cfg.frameBytes) ∧ s.stepIx ≠ 3#2 ∧ s.phase ≠ 7#3 ∧
    (s.phase = phaseIdle ↔ s.run = false) ∧ s.curSrc ≠ 3#2 ∧
    (s.insideStep = true → fractionWellFormed s.curNum s.curDen = true) ∧ s.lidx = s.tx.length ∧
    s.lidx ≤ s.cfg.frameBytes ∧ (s.phase ≠ phaseLoad → s.lidx = 0)) &&
  decide ((s.cfg.cycleMin ≤ s.cycle.toNat ∧ s.cycle.toNat ≤ s.cfg.cycleMax) ∧
    (s.stopReq = true → s.run = true ∧ s.hop = .stopwait) ∧ (s.hop = .stopwait → s.run = true → s.stopReq = true) ∧
    (s.capErr = true → s.run = false ∧ s.hop = .none)) &&
  decide ((s.phase = phasePwait ∨ s.phase = phaseLoad ∨ s.phase = phaseUnpark → s.dmux = some s.cfg.parkRows) ∧
    (s.phase = phaseXwait → s.dmux = some s.cfg.unparkRows) ∧
    (s.phase = phaseUnpark ∨ s.phase = phaseXwait → s.dframe.isSome = true)) &&
  (match s.hop with
    | .none => true
    | .fill _ _ i => decide (i < s.cfg.frameBytes)
    | .derive i => decide (i < s.cfg.frameBytes)
    | .stopwait => true) &&
  (match s.dframe with
    | none => true
    | some f => f.length == s.cfg.frameBytes)

theorem invariant_of_check (s : State) (hc : s.cfg.WellFormed) (h : invariantCheck s = true) : Invariant s := by
  simp only [invariantCheck, Bool.and_eq_true, decide_eq_true_eq] at h
  obtain ⟨⟨⟨⟨⟨h1, h2, h3, h4, h5, h6, h7, h8, h9, h10⟩, h11, h12, h13, h14⟩, h15, h16, h17⟩, hh⟩, hf⟩ := h
  refine ⟨hc, h1, h2, h3, h4, h5, h6, h7, h8, h9, h10, h11, h12, h13, h14, ⟨?_, ?_⟩, h15, h16, h17, ?_⟩
  · intro layer v i he
    rw [he] at hh
    simpa using hh
  · intro i he
    rw [he] at hh
    simpa using hh
  · intro f he
    rw [he] at hf
    simpa using hf

theorem small_wellFormed : small.WellFormed := by constructor <;> decide
theorem single_wellFormed : single.WellFormed := by constructor <;> decide
theorem default_wellFormed : Config.default.WellFormed := by constructor <;> decide

/-! ### Witnesses: for each statement with hypotheses, a state and operands that meet them, clause by clause -/

/-- The host about to act on a free port, `N = 5`, three bytes drawn. -/
def hostAt (words : List Word) : State := { start small .host words [] with mem := drawn }

/-- The same with the strap low at reset. -/
def incapable (words : List Word) : State := { hostAt words with capErr := true }

/-- The engine with a stop pending, the host waiting for it. -/
def stopping (p : BitVec 3) (bus : List BusAnswer) : State :=
  { engineAt p bus with stopReq := true, hop := .stopwait }

/-- A DERIVE about to write the last of five bytes. -/
def deriving4 : State :=
  { hostAt [] with hop := .derive 4, mem := [(3, 0xF0#8), (4, 0xFF#8), (8, 0x3C#8), (9, 0x81#8), (13, 0x30#8)] }

theorem witness_DecodeReadsBackEveryEncoding :
    (Instr.showEntry .c 127#7 127#7).wellFormed = true ∧ (Instr.setpx .b 255#8 255#8 true).wellFormed = true := by decide

theorem witness_DecodedWordsAreCanonical :
    decode (.command 0x25BFFF00#32) = .ok (.rdbyte .c 16383#14) ∧
    decode (.plan 0xBFFF#16) = .ok (.showEntry .c 127#7 127#7) ∧ decode (.phase 6#3) = .ok .xwait := by decide

theorem witness_ReservedOpcodeIsIllegal :
    ∀ cmd ∈ [0x00FFFFFF#32, 0x05000000#32, 0x26000000#32, 0xFF000000#32],
      cmd.toNat / 2 ^ 24 ∉ [0x01, 0x02, 0x03, 0x04, 0x08, 0x10, 0x11, 0x12, 0x13, 0x14, 0x20, 0x21, 0x22, 0x23, 0x24, 0x25] ∧
      (hostAt [cmd]).nextPick = .host ∧ (hostAt [cmd]).hop = .none ∧ (hostAt [cmd]).env.words = cmd :: [] := by
  intro cmd h
  simp only [List.mem_cons, List.not_mem_nil, or_false] at h
  rcases h with rfl | rfl | rfl | rfl <;> exact ⟨by decide, by decide, by decide, by decide⟩

theorem witness_ReservedFieldsAreRejected :
    ((0x01000001#32).toNat / 2 ^ 24 ∈ [0x01, 0x02, 0x03, 0x04, 0x10, 0x13, 0x14, 0x22] ∧ (0x01000001#32).toNat % 2 ^ 24 ≠ 0) ∧
    ((0x12800000#32).toNat / 2 ^ 24 ∈ [0x11, 0x12] ∧ (0x12800000#32).toNat / 2 ^ 16 % 2 ^ 8 ≠ 0) ∧
    ((0x20040000#32).toNat / 2 ^ 24 ∈ [0x20, 0x21] ∧ (0x20040000#32).toNat / 2 ^ 18 % 2 ^ 6 ≠ 0) ∧
    ((0x21008000#32).toNat / 2 ^ 24 = 0x21 ∧ (0x21008000#32).toNat % 2 ^ 16 ≠ 0) ∧
    ((0x23000004#32).toNat / 2 ^ 24 = 0x23 ∧ (0x23000004#32).toNat / 2 ^ 2 % 2 ^ 22 ≠ 0) ∧
    ((0x25000080#32).toNat / 2 ^ 24 = 0x25 ∧ (0x25000080#32).toNat % 2 ^ 8 ≠ 0) ∧
    ((0x08000100#32).toNat / 2 ^ 24 = 0x08 ∧ (0x08000100#32).toNat / 2 ^ 8 % 2 ^ 16 ≠ 0) ∧
    ((0x24C00000#32).toNat / 2 ^ 24 = 0x24 ∧ (0x24C00000#32).toNat / 2 ^ 22 % 4 = 3) ∧
    ((0x25C00000#32).toNat / 2 ^ 24 = 0x25 ∧ (0x25C00000#32).toNat % 2 ^ 8 = 0 ∧ (0x25C00000#32).toNat / 2 ^ 22 % 4 = 3) ∧
    ((0x08000003#32).toNat / 2 ^ 24 = 0x08 ∧ (0x08000003#32).toNat / 2 ^ 8 % 2 ^ 16 = 0 ∧
      3 ≤ (0x08000003#32).toNat % 2 ^ 8) ∧
    ((incapable [0x24C00000#32]).nextPick = .host ∧ (incapable [0x24C00000#32]).hop = .none ∧
      (incapable [0x24C00000#32]).env.words = 0x24C00000#32 :: [] ∧
      decodeCommand 0x24C00000#32 = .error .reservedValue) := by decide

theorem witness_StepRunsTheDecodedInstruction :
    ((hostAt [0x22000000#32]).nextPick = .host ∧ (hostAt [0x22000000#32]).hop = .none ∧
      (hostAt [0x22000000#32]).env.words = 0x22000000#32 :: [] ∧ decodeCommand 0x22000000#32 = .ok .derive) ∧
    ((engineAt phaseXwait []).nextPick = .engine ∧ (engineAt phaseXwait []).run = true ∧
      decodePhase (engineAt phaseXwait []).phase = .ok .xwait) ∧
    (let s := { engineAt phaseFetch [] with env := { Env.empty with picks := [.subframe] } }
     s.nextPick = .subframe ∧ s.run = true ∧ s.phase = 1#3 ∧ s.planEntry = some (.a, 1#7, 2#7)) := by decide

theorem witness_StartLaunchesTheEngine :
    (incapable []).capErr = true ∧
    ((engineAt phaseLoad []).capErr = false ∧ (engineAt phaseLoad []).run = true) ∧
    ((hostAt []).capErr = false ∧ (hostAt []).run = false) := by decide

theorem witness_StopRequestsAndJoinsTheExit :
    (incapable []).capErr = true ∧ ((hostAt []).capErr = false ∧ (hostAt []).run = false) ∧
    ((engineAt phaseLoad []).capErr = false ∧ (engineAt phaseLoad []).run = true) ∧
    (let s := { hostAt [] with hop := .stopwait }
     s.nextPick = .host ∧ s.hop = .stopwait ∧ s.run = false) ∧
    (let s := { stopping phaseLoad [] with env := (hostAt []).env }
     s.nextPick = .host ∧ s.hop = .stopwait ∧ s.run = true) := by decide

theorem witness_GrayscaleToggles : (hostAt []).capErr = false ∧ (engineAt phaseXwait []).capErr = false := by decide

theorem witness_GetcycAnswersTheCycle : (hostAt []).capErr = false := by decide

theorem witness_AdjustmentsClampTheExactSum :
    (hostAt []).capErr = false ∧ (hostAt []).cfg.cycleMin ≤ (hostAt []).cfg.cycleMax ∧
      (hostAt []).cfg.cycleMax < 2 ^ 32 := by decide

/-- At the lower bound with a negative `delta`, at the upper with a positive one, and in between. -/
theorem witness_AdjustmentsAreMonotone :
    (∀ c : Word × BitVec 16, c ∈ [(1#32, 0xFFFF#16), (4294967295#32, 1#16), (27400#32, 0#16), (27400#32, 0x8000#16)] →
      let s := { hostAt [] with cycle := c.1 }
      s.cfg.WellFormed ∧ s.capErr = false ∧ s.cfg.cycleMin ≤ s.cycle.toNat ∧ s.cycle.toNat ≤ s.cfg.cycleMax ∧
        ∃ t, exec (.adjc c.2) s = .next t) ∧
    (let s := start .default .host [] []
     s.cfg = Config.default ∧ s.capErr = false ∧ s.cycle = 27400#32) := by
  refine ⟨fun c hc => ?_, by decide⟩
  simp only [List.mem_cons, List.not_mem_nil, or_false] at hc
  rcases hc with rfl | rfl | rfl | rfl <;> exact ⟨small_wellFormed, rfl, by decide, by decide, ⟨_, rfl⟩⟩

theorem witness_CommitWritesTheStore :
    ((engineAt phaseLoad []).capErr = false ∧ (engineAt phaseLoad []).run = true) ∧
    ((hostAt []).capErr = false ∧ (hostAt []).run = false ∧ (hostAt []).nextNvWrite = .ok) ∧
    (let s := { hostAt [] with env := { Env.empty with nvWrites := [.fail true 7#32] } }
     s.capErr = false ∧ s.run = false ∧ s.nextNvWrite = .fail true 7#32) := by decide

/-- The value read is at the minimum, and just below it; the read fails; the store is empty. -/
theorem witness_ReloadLoadsTheCycle :
    ((engineAt phaseLoad []).capErr = false ∧ (engineAt phaseLoad []).run = true) ∧
    (let s := { hostAt [] with nvValid := true, nvCycle := 1#32 }
     s.capErr = false ∧ s.run = false ∧ s.nextNvRead = .ok ∧ s.nvValid = true ∧ s.cfg.cycleMin ≤ s.nvCycle.toNat ∧
       s.nvCycle.toNat ≤ s.cfg.cycleMax) ∧
    (let s := { hostAt [] with nvValid := true, nvCycle := 0#32 }
     s.capErr = false ∧ s.run = false ∧ s.nvCycle.toNat < s.cfg.cycleMin) ∧
    (let s := { hostAt [] with env := { Env.empty with nvReads := [.fail] } }
     s.capErr = false ∧ s.run = false ∧ s.nextNvRead = .fail) ∧
    ((hostAt []).capErr = false ∧ (hostAt []).run = false ∧ (hostAt []).nvValid = false) := by decide

theorem witness_CommittedCycleSurvivesReset :
    ∃ t, Invariant (hostAt []) ∧ (hostAt []).capErr = false ∧ (hostAt []).run = false ∧
      (hostAt []).nextNvWrite = .ok ∧ exec .commit (hostAt []) = .next t ∧ t.nextNvRead = .ok ∧
      (resetSequence true t).nextNvRead = .ok := by
  obtain ⟨t, h, hp⟩ := gives_next (exec .commit (hostAt []))
    (fun t => t.nextNvRead = .ok && (resetSequence true t).nextNvRead = .ok) (by decide)
  simp only [Bool.and_eq_true, decide_eq_true_eq] at hp
  exact ⟨t, invariant_of_check _ small_wellFormed (by decide), by decide, by decide, by decide, h, hp.1, hp.2⟩

theorem witness_OnlyCommitWritesTheStore :
    ∃ t, step (hostAt [0x13000000#32]) = .next t ∧
      ¬(t.nvValid = (hostAt [0x13000000#32]).nvValid ∧ t.nvCycle = (hostAt [0x13000000#32]).nvCycle) := by
  obtain ⟨t, h, hp⟩ := gives_next (step (hostAt [0x13000000#32])) (fun t => t.nvValid = true) (by decide)
  refine ⟨t, h, fun hn => ?_⟩
  rw [hn.1] at hp
  revert hp
  decide

/-- The first and the last address that exist. -/
theorem witness_ReadAfterWrite :
    (hostAt []).mem.wf ∧ (∃ t, (hostAt []).memWrite 0 9#8 = some t) ∧ ∃ t, (hostAt []).memWrite 14 9#8 = some t :=
  ⟨by decide, ⟨_, rfl⟩, ⟨_, rfl⟩⟩

/-- `x = W`, `y = H`, and the last pixel. -/
theorem witness_SetpxChangesOnePixel :
    (hostAt []).capErr = false ∧ (hostAt []).cfg.w ≤ (1#8).toNat ∧ (hostAt []).cfg.h ≤ (40#8).toNat ∧
    ((0#8).toNat < (hostAt []).cfg.w ∧ (39#8).toNat < (hostAt []).cfg.h ∧ (hostAt []).cfg.h % 8 = 0 ∧
      (hostAt []).mem.wf) := by decide

/-- Buffers of five bytes and of one; the last index but one, and the last. -/
theorem witness_FillWritesOneByteAMicroStep :
    ((hostAt []).capErr = false ∧ 1 < (hostAt []).cfg.frameBytes ∧ (hostAt []).mem.wf) ∧
    (let s := start single .host [] []
     s.capErr = false ∧ 0 < s.cfg.frameBytes ∧ s.cfg.frameBytes = 1 ∧ s.mem.wf) ∧
    (let s := { hostAt [] with hop := .fill .b 0xFF#8 3 }
     s.nextPick = .host ∧ s.hop = .fill .b 0xFF#8 3 ∧ 3 < s.cfg.frameBytes ∧ s.mem.wf ∧ 3 + 1 < s.cfg.frameBytes) ∧
    (let s := { hostAt [] with hop := .fill .b 0xFF#8 4 }
     s.nextPick = .host ∧ s.hop = .fill .b 0xFF#8 4 ∧ 4 < s.cfg.frameBytes ∧ s.mem.wf ∧ 4 + 1 = s.cfg.frameBytes) := by
  decide

theorem witness_FillCompletesInNMicroSteps :
    let s := hostAt [0x21030000#32]
    s.capErr = false ∧ s.hop = .none ∧ 0 < s.cfg.frameBytes ∧ s.mem.wf ∧ s.env.words = 0x21030000#32 :: [] ∧
      decodeCommand 0x21030000#32 = .ok (.fill .b true) := by decide

theorem witness_DeriveComputesOneByteAMicroStep :
    ((hostAt []).capErr = false ∧ 1 < (hostAt []).cfg.frameBytes ∧ (hostAt []).mem.wf) ∧
    (let s := start single .host [] []
     s.capErr = false ∧ 0 < s.cfg.frameBytes ∧ s.cfg.frameBytes = 1 ∧ s.mem.wf) ∧
    (let s := { hostAt [] with hop := .derive 3 }
     s.nextPick = .host ∧ s.hop = .derive 3 ∧ 3 < s.cfg.frameBytes ∧ s.mem.wf ∧ 3 + 1 < s.cfg.frameBytes) ∧
    (deriving4.nextPick = .host ∧ deriving4.hop = .derive 4 ∧ 4 < deriving4.cfg.frameBytes ∧ deriving4.mem.wf ∧
      4 + 1 = deriving4.cfg.frameBytes) := by decide

theorem witness_DeriveCompletesInNMicroSteps :
    let s := hostAt [0x22000000#32]
    s.capErr = false ∧ s.hop = .none ∧ 0 < s.cfg.frameBytes ∧ s.mem.wf ∧ s.env.words = 0x22000000#32 :: [] := by decide

/-- The last micro-step of a DERIVE, after which the port is free. -/
theorem witness_DeriveSurvivesInterleaving :
    ∃ t, Invariant deriving4 ∧ deriving4.deriveProgress ∧ step deriving4 = .next t ∧ deriving4.hop = .derive 4 ∧
      t.hop = .none ∧ ∀ c, deriving4.nextPick ≠ .reset c := by
  obtain ⟨t, h, hp⟩ := gives_next (step deriving4) (fun t => t.hop = .none) (by decide)
  refine ⟨t, invariant_of_check _ small_wellFormed (by decide), ?_, h, rfl, by simpa using hp, ?_⟩
  · intro i hi
    cases hi
    show ∀ j, j < 4 → deriving4.bufByte .c j = deriving4.bufByte .a j &&& deriving4.bufByte .b j
    decide
  · intro c
    cases c <;> decide

theorem witness_ResolveLooksUpTheTable :
    (hostAt []).capErr = false ∧ (hostAt []).cfg.resolveLut = Config.default.resolveLut := by decide

/-- The last index, the first index beyond, and buffer C. -/
theorem witness_WrbyteWritesOneByte :
    (hostAt []).capErr = false ∧ (hostAt []).cfg.frameBytes ≤ (5#14).toNat ∧ Buf.c = .c ∧
    (Buf.b ≠ .c ∧ (4#14).toNat < (hostAt []).cfg.frameBytes ∧ (hostAt []).mem.wf) := by decide

theorem witness_RdbyteReadsOneByte :
    (hostAt []).capErr = false ∧ (hostAt []).cfg.frameBytes ≤ (5#14).toNat ∧
      (4#14).toNat < (hostAt []).cfg.frameBytes := by decide

theorem witness_NonStoringCommandsKeepEveryByte :
    (∃ t, exec (.rdbyte .a 3#14) (hostAt []) = .next t) ∧ (∀ layer x y bit, Instr.rdbyte .a 3#14 ≠ .setpx layer x y bit) ∧
    (∀ layer bit, Instr.rdbyte .a 3#14 ≠ .fill layer bit) ∧ Instr.rdbyte .a 3#14 ≠ .derive ∧
    (∀ buf index value, Instr.rdbyte .a 3#14 ≠ .wrbyte buf index value) :=
  ⟨⟨_, rfl⟩, by simp, by simp, by simp, by simp⟩

theorem witness_OnlyDeriveWritesCombined :
    ∃ t, Invariant deriving4 ∧ step deriving4 = .next t ∧ t.bufByte .c 4 ≠ deriving4.bufByte .c 4 ∧
      4 < deriving4.cfg.frameBytes := by
  obtain ⟨t, h, hp⟩ := gives_next (step deriving4) (fun t => t.bufByte .c 4 ≠ deriving4.bufByte .c 4) (by decide)
  exact ⟨t, invariant_of_check _ small_wellFormed (by decide), h, by simpa using hp, by decide⟩

/-- A stop pending; the last entry of a plan; a step beyond the plain plan, clipped. -/
theorem witness_FetchExitsOrLatches :
    (let s := stopping phaseFetch []
     s.run = true ∧ s.phase = 1#3 ∧ s.stepIx ≠ 3#2 ∧ s.curSrc ≠ 3#2 ∧ s.stopReq = true) ∧
    (let s := { engineAt phaseFetch [] with stepIx := 2#2 }
     s.run = true ∧ s.phase = 1#3 ∧ s.stepIx ≠ 3#2 ∧ s.curSrc ≠ 3#2 ∧ s.stopReq = false ∧
     (if s.gs then s.cfg.planGs else s.cfg.planPlain) = [0x0082#16, 0x4084#16, 0x8084#16] ∧
     [0x0082#16, 0x4084#16, 0x8084#16][2]? = some 0x8084#16 ∧
     decodePlanEntry 0x8084#16 = .ok (.showEntry .c 1#7 4#7)) ∧
    (let s := { engineAt phaseFetch [] with stepIx := 1#2, gs := false }
     s.run = true ∧ s.phase = 1#3 ∧ s.stopReq = false ∧
     (if s.gs then s.cfg.planGs else s.cfg.planPlain) = [0x0081#16] ∧ [0x0081#16].length ≤ s.stepIx.toNat ∧
     decodePlanEntry 0x0081#16 = .ok (.showEntry .a 1#7 1#7)) := by decide

theorem witness_ParkSendsTheParkCommand :
    small.muxOperand = .rowsMinus 1 ∧
    ∀ b ∈ [BusAnswer.ok, .err],
      let s := engineAt phasePark [b]
      s.run = true ∧ s.phase = 2#3 ∧ s.stepIx ≠ 3#2 ∧ s.curSrc ≠ 3#2 ∧ s.nextBus = b := by decide

theorem witness_PwaitRecordsTheParkWait :
    let s := engineAt phasePwait []
    s.run = true ∧ s.phase = 3#3 ∧ s.stepIx ≠ 3#2 ∧ s.curSrc ≠ 3#2 := by decide

/-- The first and the last byte. -/
theorem witness_LoadReadsOneByte :
    ∀ k ∈ [0, 4],
      let s := { engineAt phaseLoad [] with lidx := k, tx := List.replicate k 0#8, curSrc := 2#2 }
      s.run = true ∧ s.phase = 4#3 ∧ s.stepIx ≠ 3#2 ∧ s.curSrc ≠ 3#2 ∧ s.lidx < s.cfg.frameBytes := by decide

theorem witness_LoadTransmitsTheFrame :
    ∀ b ∈ [BusAnswer.ok, .err],
      let s := transmitting [b]
      s.run = true ∧ s.phase = 4#3 ∧ s.stepIx ≠ 3#2 ∧ s.curSrc ≠ 3#2 ∧ s.lidx = s.cfg.frameBytes ∧ s.nextBus = b := by
  decide

theorem witness_UnparkSendsTheUnparkCommand :
    ∀ b ∈ [BusAnswer.ok, .err], ∀ src ∈ [Buf.a, .b, .c],
      let s := { engineAt phaseUnpark [b] with curSrc := bufCode src }
      s.run = true ∧ s.phase = 5#3 ∧ s.stepIx ≠ 3#2 ∧ s.curSrc = bufCode src ∧ s.nextBus = b := by decide

theorem witness_XwaitRecordsTheExposureAndAdvances :
    let s := engineAt phaseXwait []
    s.run = true ∧ s.phase = 6#3 ∧ s.stepIx ≠ 3#2 ∧ s.curSrc ≠ 3#2 ∧ s.curDen ≠ 0#7 := by decide

/-- A stopped engine, another phase, a reserved register in every phase, and the four other stops. -/
theorem witness_EngineStopsAndDisabledSteps :
    (decodePhase 3#3 = .ok .pwait ∧ ¬((hostAt []).run = true ∧ (hostAt []).phase = 3#3) ∧
      ¬((engineAt phaseLoad []).run = true ∧ (engineAt phaseLoad []).phase = 3#3)) ∧
    (let s := { engineAt phasePark [] with stepIx := 3#2 }
     decodePhase 2#3 = .ok .park ∧ s.run = true ∧ s.phase = 2#3 ∧ s.stepIx = 3#2) ∧
    (let s := { engineAt phaseFetch [] with curSrc := 3#2 }
     s.run = true ∧ s.phase = 1#3 ∧ s.curSrc = 3#2) ∧
    ((engineAt 7#3 []).nextPick = .engine ∧ (engineAt 7#3 []).run = true ∧ (engineAt 7#3 []).phase = 7#3) ∧
    (let s := { engineAt phaseLoad [] with lidx := 6 }
     s.run = true ∧ s.stepIx ≠ 3#2 ∧ s.curSrc ≠ 3#2 ∧ s.phase = 4#3 ∧ s.cfg.frameBytes < s.lidx) ∧
    (let s := { engineAt phaseXwait [] with curDen := 0#7 }
     s.run = true ∧ s.stepIx ≠ 3#2 ∧ s.curSrc ≠ 3#2 ∧ s.phase = 6#3 ∧ s.curDen = 0#7) ∧
    (let s := { engineAt phaseFetch [] with cfg := { small with planGs := [0xC081#16] } }
     s.run = true ∧ s.stepIx ≠ 3#2 ∧ s.curSrc ≠ 3#2 ∧ s.phase = 1#3 ∧ s.stopReq = false ∧ s.planEntry = none) ∧
    fractionWellFormed 2#7 1#7 = false := by decide

theorem witness_ErrorFreeShow :
    (let s := stopping phaseFetch []
     s.run = true ∧ s.phase = 1#3 ∧ s.stepIx ≠ 3#2 ∧ s.curSrc ≠ 3#2 ∧ fractionWellFormed 1#7 2#7 = true ∧
     s.stopReq = true) ∧
    (let s := engineAt phaseFetch [.ok, .ok, .ok]
     s.run = true ∧ s.phase = 1#3 ∧ s.stepIx ≠ 3#2 ∧ s.curSrc ≠ 3#2 ∧ fractionWellFormed 127#7 127#7 = true ∧
     s.stopReq = false ∧ s.env.bus = .ok :: .ok :: .ok :: []) := by decide

theorem witness_ShowIsItsMicroSteps :
    let s := engineAt phaseFetch [.ok, .err]
    s.run = true ∧ s.phase = 1#3 ∧ s.stepIx ≠ 3#2 ∧ s.curSrc ≠ 3#2 ∧ s.planEntry = some (.a, 1#7, 2#7) := by decide

theorem witness_OneGrayscaleCycle :
    let s := { engineAt phaseFetch (List.replicate 9 .ok ++ [.err]) with cfg := Config.default }
    Invariant s ∧ s.cfg = Config.default ∧ s.run = true ∧ s.phase = 1#3 ∧ s.gs = true ∧ s.stepIx = 0#2 ∧
      s.stopReq = false ∧ s.env.bus = List.replicate 9 .ok ++ [.err] :=
  ⟨invariant_of_check _ default_wellFormed (by decide), by decide⟩

/-- At the FETCH itself, and just after the LOAD. -/
theorem witness_PendingStopIsHonoured :
    ∀ p ∈ [phaseFetch, phaseUnpark],
      let s := stopping p [.err, .ok, .ok]
      Invariant s ∧ s.stopReq = true ∧ s.env.bus = .err :: .ok :: .ok :: [] ∧ BusAnswer.err ≠ .never ∧
        BusAnswer.ok ≠ .never := by
  intro p hp
  refine ⟨invariant_of_check _ small_wellFormed ?_, ?_⟩
  · revert p; decide
  · revert p; decide

/-- At each of the three bus calls. -/
theorem witness_HungEngineStaysStuck :
    ∀ s ∈ [engineAt phasePark [.never], transmitting [.never], engineAt phaseUnpark [.never]],
      s.atBusCall = true ∧ s.nextBus = .never ∧ (∀ c, s.nextPick ≠ .reset c) ∧ ∃ t, step s = .next t := by
  intro s hs
  simp only [List.mem_cons, List.not_mem_nil, or_false] at hs
  rcases hs with rfl | rfl | rfl <;>
    exact ⟨by decide, by decide, fun c => by cases c <;> decide, ⟨_, rfl⟩⟩

theorem witness_LitFractions :
    planFractions Config.default.planGs = some [(.a, 1, 2), (.b, 1, 4), (.c, 1, 4)] := by decide

/-- A toggle in the first and in the last phase of a step, from either mode, and one between a step and its FETCH at the
last entry. -/
theorem witness_ToggleTakesEffectAtTheNextStep :
    (∀ p ∈ [phasePark, phaseXwait], ∀ gs : Bool,
      let s := { engineAt p [.ok, .ok, .ok] with gs := gs }
      Invariant s ∧ s.cfg.planGs = Config.default.planGs ∧ s.cfg.planPlain = Config.default.planPlain ∧
        s.stopReq = false ∧ s.insideStep = true ∧ s.env.bus = .ok :: .ok :: .ok :: []) ∧
    (let s := { engineAt phaseFetch [] with stepIx := 2#2 }
     Invariant s ∧ s.cfg.planGs = Config.default.planGs ∧ s.cfg.planPlain = Config.default.planPlain ∧
       s.stopReq = false ∧ s.phase = 1#3) := by
  refine ⟨fun p hp gs => ⟨invariant_of_check _ small_wellFormed ?_, ?_⟩,
    invariant_of_check _ small_wellFormed (by decide), by decide⟩
  · revert gs p; decide
  · revert gs p; decide

theorem witness_CapErrRefusesAllButRdcsr :
    (hostCommand .derive = true ∧ (∀ csr, Instr.derive ≠ .rdcsr csr) ∧ (incapable []).capErr = true) ∧
    (let s := { incapable [] with env := { Env.empty with picks := [.engine] } }
     Invariant s ∧ s.capErr = true ∧ enginePick s.nextPick = true) :=
  ⟨⟨rfl, by simp, rfl⟩, invariant_of_check _ small_wellFormed (by decide), by decide⟩

theorem witness_PrecondCauses :
    Invariant (hostAt []) ∧ hostCommand (.rdbyte .c 5#14) = true ∧ (hostAt []).capErr = false :=
  ⟨invariant_of_check _ small_wellFormed (by decide), by decide⟩

/-- A word on a free port, and an operation in progress. -/
theorem witness_OneResponsePerCommand :
    ((hostAt [0x21030000#32]).nextPick = .host ∧ (hostAt [0x21030000#32]).env.words ≠ [] ∧
      ∃ t, step (hostAt [0x21030000#32]) = .next t) ∧
    (deriving4.nextPick = .host ∧ deriving4.hop ≠ .none ∧ ∃ t, step deriving4 = .next t) :=
  ⟨⟨by decide, by decide, ⟨_, rfl⟩⟩, by decide, by decide, ⟨_, rfl⟩⟩

/-- START; the exit; a reset of a running engine. -/
theorem witness_RunChangesOnlyAtStartAndExit :
    (∃ t, step (hostAt [0x01000000#32]) = .next t ∧ (hostAt [0x01000000#32]).run = false ∧ t.run = true) ∧
    (∃ t, step (stopping phaseFetch []) = .next t ∧ (stopping phaseFetch []).run = true ∧ t.run = false) ∧
    (let s := { engineAt phaseLoad [] with env := (start small (.reset true) [] []).env }
     ∃ t, step s = .next t ∧ s.run = true ∧ t.run = false) :=
  ⟨⟨_, rfl, rfl, rfl⟩, ⟨_, rfl, rfl, rfl⟩, ⟨_, rfl, rfl, rfl⟩⟩

theorem witness_EngineFrame :
    enginePick (transmitting [.ok]).nextPick = true ∧ ∃ t, step (transmitting [.ok]) = .next t := ⟨by decide, ⟨_, rfl⟩⟩

/-- A command that leaves the engine's position, and START, which moves it. -/
theorem witness_HostFrame :
    (deriving4.nextPick = .host ∧ ∃ t, step deriving4 = .next t) ∧
    ((hostAt [0x01000000#32]).nextPick = .host ∧
      ∃ t, step (hostAt [0x01000000#32]) = .next t ∧
        ¬(t.run = (hostAt [0x01000000#32]).run ∧ t.phase = (hostAt [0x01000000#32]).phase ∧
          t.stepIx = (hostAt [0x01000000#32]).stepIx)) := by
  refine ⟨⟨by decide, ⟨_, rfl⟩⟩, by decide, ?_⟩
  obtain ⟨t, h, hp⟩ := gives_next (step (hostAt [0x01000000#32])) (fun t => t.run = true) (by decide)
  refine ⟨t, h, fun hn => ?_⟩
  rw [hn.1] at hp
  revert hp
  decide

/-- A frame received, and a frame lost. -/
theorem witness_FramesAreLoadedWhileParked :
    ∀ s ∈ [transmitting [.ok], { transmitting [.err] with dframe := some [9#8, 9#8, 9#8, 9#8, 9#8] }],
      ∃ t, Invariant s ∧ s.nextPick = .engine ∧ step s = .next t ∧ t.dframe ≠ s.dframe := by
  intro s hs
  simp only [List.mem_cons, List.not_mem_nil, or_false] at hs
  rcases hs with rfl | rfl
  · exact ⟨_, invariant_of_check _ small_wellFormed (by decide), by decide, rfl, by decide⟩
  · exact ⟨_, invariant_of_check _ small_wellFormed (by decide), by decide, rfl, by decide⟩

theorem witness_ObserverStateIsNeverRead :
    (transmitting [.ok]).hideObserver = { transmitting [.ok] with dmux := none, trace := [.wait 5] }.hideObserver := by
  decide

theorem witness_CycleReachesOnlyTheWaits :
    let s := { engineAt phaseXwait [] with trace := [.wait 1141] }
    s.hideCycle = { s with cycle := 27500#32, trace := [.wait 1145] }.hideCycle ∧ enginePick s.nextPick = true := by
  decide

theorem witness_ResetSequenceValues :
    ∀ strap : Bool, (start small (.reset strap) [] []).nextPick = .reset strap ∧
      0 < 3 * (start small (.reset strap) [] []).cfg.frameBytes := by decide

/-- A transmit, an exit, and a state of the smallest geometry. -/
theorem witness_EveryStepKeepsTheInvariant :
    (Invariant (transmitting [.ok]) ∧ ∃ t, step (transmitting [.ok]) = .next t) ∧
    (Invariant (stopping phaseFetch []) ∧ ∃ t, step (stopping phaseFetch []) = .next t) ∧
    (Invariant (start single .host [0x22000000#32] []) ∧ ∃ t, step (start single .host [0x22000000#32] []) = .next t) :=
  ⟨⟨invariant_of_check _ small_wellFormed (by decide), ⟨_, rfl⟩⟩,
    ⟨invariant_of_check _ small_wellFormed (by decide), ⟨_, rfl⟩⟩,
    invariant_of_check _ single_wellFormed (by decide), ⟨_, rfl⟩⟩

theorem witness_NoStepStops : Invariant (transmitting [.err]) ∧ Invariant deriving4 :=
  ⟨invariant_of_check _ small_wellFormed (by decide), invariant_of_check _ small_wellFormed (by decide)⟩

end Sys2Proof.Tests
end

section
/-!
SUPPORT. O55: no step reads TRACE, the display shadow or the responses. A function of the state ignores them when it
gives the same visible outcome on the state with them hidden. Composition and every shared operation pass the property
on, so each meaning has it, and with the meanings the step.
-/

namespace Sys2Proof.Machine

/-! ### What hiding the observer's lists leaves in view -/

section Visible

variable (s : State)

@[simp] theorem State.hideObserver_cfg : s.hideObserver.cfg = s.cfg := rfl
@[simp] theorem State.hideObserver_env : s.hideObserver.env = s.env := rfl
@[simp] theorem State.hideObserver_phase : s.hideObserver.phase = s.phase := rfl
@[simp] theorem State.hideObserver_mem : s.hideObserver.mem = s.mem := rfl
@[simp] theorem State.hideObserver_hop : s.hideObserver.hop = s.hop := rfl
@[simp] theorem State.hideObserver_memRead (a : Nat) : s.hideObserver.memRead a = s.memRead a := rfl
@[simp] theorem State.hideObserver_planEntry : s.hideObserver.planEntry = s.planEntry := rfl
@[simp] theorem State.hideObserver_nextBus : s.hideObserver.nextBus = s.nextBus := rfl
@[simp] theorem State.hideObserver_nextNvWrite : s.hideObserver.nextNvWrite = s.nextNvWrite := rfl
@[simp] theorem State.hideObserver_nextPick : s.hideObserver.nextPick = s.nextPick := rfl

/-- A buffer write exists with the lists hidden or not, and hiding them commutes with it. -/
theorem State.hideObserver_memWrite (a : Nat) (v : Byte) :
    s.hideObserver.memWrite a v = (s.memWrite a v).map State.hideObserver := by
  have hmem (m : Memory) : s.hideObserver.withMem m = (s.withMem m).hideObserver := rfl
  by_cases h : a < 3 * s.cfg.frameBytes <;> simp [State.memWrite, h, hmem]

/-- So does the end of a bus call that never returned (R238, R271). -/
theorem State.hideObserver_dropHungCall : s.hideObserver.dropHungCall = s.dropHungCall.hideObserver :=
  (apply_ite State.hideObserver ((s.atBusCall && s.nextBus == .never) = true) s.takeBus s).symm

end Visible

/-! ### Ignoring the observer's lists -/

/-- A change of state whose visible outcome does not depend on TRACE, the display shadow and the responses. -/
def IgnoresObserver (f : State → State) : Prop := ∀ s, (f s).hideObserver = (f s.hideObserver).hideObserver

/-- A meaning whose answer, but for the observer's lists of the next state, does not depend on those lists. -/
def AnswerIgnoresObserver (e : State → Result) : Prop :=
  ∀ s, agreeUpTo State.hideObserver (e s) (e s.hideObserver)

/-- An answer as `view` shows it. -/
def seenThrough (view : State → State) : Result → Result
  | .next s => .next (view s)
  | .fault r => .fault r
  | .refused r => .refused r

/-- Agreement up to a view is equality of what the view shows, so it is an equivalence. -/
theorem agreeUpTo_iff (view : State → State) (r q : Result) :
    agreeUpTo view r q ↔ seenThrough view r = seenThrough view q := by
  cases r <;> cases q <;> simp [agreeUpTo, seenThrough]

/-- The two-run form: states that look alike are answered alike. -/
theorem AnswerIgnoresObserver.agree {e : State → Result} (he : AnswerIgnoresObserver e) {s s' : State}
    (h : s.hideObserver = s'.hideObserver) : agreeUpTo State.hideObserver (e s) (e s') := by
  have hs := (agreeUpTo_iff _ _ _).1 (he s)
  have hs' := (agreeUpTo_iff _ _ _).1 (he s')
  rw [← h] at hs'
  exact (agreeUpTo_iff _ _ _).2 (hs.trans hs'.symm)

section Combinators

variable {f g : State → State} {e e' : State → Result}

theorem IgnoresObserver.id : IgnoresObserver fun s => s := fun _ => rfl

theorem IgnoresObserver.comp (hg : IgnoresObserver g) (hf : IgnoresObserver f) : IgnoresObserver fun s => g (f s) :=
  fun s =>
  calc (g (f s)).hideObserver
    _ = (g (f s).hideObserver).hideObserver := hg _
    _ = (g (f s.hideObserver).hideObserver).hideObserver := by rw [hf s]
    _ = (g (f s.hideObserver)).hideObserver := (hg _).symm

/-- A branch on a condition that does not read the observer's lists. -/
theorem IgnoresObserver.ite {c : State → Prop} [DecidablePred c] (hc : ∀ s, c s.hideObserver = c s)
    (hf : IgnoresObserver f) (hg : IgnoresObserver g) : IgnoresObserver fun s => if c s then f s else g s := by
  intro s
  by_cases h : c s
  · simpa [h, hc] using hf s
  · simpa [h, hc] using hg s

theorem AnswerIgnoresObserver.next (hf : IgnoresObserver f) : AnswerIgnoresObserver fun s => .next (f s) := hf

theorem AnswerIgnoresObserver.fault (r : Fault) : AnswerIgnoresObserver fun _ => .fault r := fun _ => rfl

theorem AnswerIgnoresObserver.refused (r : Refusal) : AnswerIgnoresObserver fun _ => .refused r := fun _ => rfl

theorem AnswerIgnoresObserver.comp (he : AnswerIgnoresObserver e) (hf : IgnoresObserver f) :
    AnswerIgnoresObserver fun s => e (f s) := fun s => he.agree (hf s)

/-- A branch on a condition that does not read the observer's lists. -/
theorem AnswerIgnoresObserver.ite {c : State → Prop} [DecidablePred c] (hc : ∀ s, c s.hideObserver = c s)
    (he : AnswerIgnoresObserver e) (he' : AnswerIgnoresObserver e') :
    AnswerIgnoresObserver fun s => if c s then e s else e' s := by
  intro s
  by_cases h : c s
  · simpa [h, hc] using he s
  · simpa [h, hc] using he' s

/-! ### The shared operations -/

/-- A buffer read answers alike in both runs, so what is done with the byte decides. -/
theorem AnswerIgnoresObserver.memRead {a : State → Nat} {k : State → Byte → Result}
    (ha : ∀ s, a s.hideObserver = a s) (hk : ∀ v, AnswerIgnoresObserver fun s => k s v) :
    AnswerIgnoresObserver fun s => orNoSuchAddress (s.memRead (a s)) (k s) := by
  intro s
  simp only [ha, State.hideObserver_memRead]
  cases s.memRead (a s) with
  | none => rfl
  | some v => exact hk v s

/-- A buffer write exists in both runs or in neither, so what follows it decides. -/
theorem AnswerIgnoresObserver.memWrite {a : State → Nat} (ha : ∀ s, a s.hideObserver = a s) (v : Byte)
    (hf : IgnoresObserver f) :
    AnswerIgnoresObserver fun s => orNoSuchAddress (s.memWrite (a s) v) fun t => .next (f t) := by
  intro s
  simp only [ha, State.hideObserver_memWrite]
  cases s.memWrite (a s) v with
  | none => rfl
  | some t => exact hf t

theorem AnswerIgnoresObserver.capGuard (he : AnswerIgnoresObserver e) :
    AnswerIgnoresObserver fun s => capGuard s (e s) :=
  .ite (fun _ => rfl) (.next fun _ => rfl) he

theorem AnswerIgnoresObserver.microOp (p : BitVec 3) (he : AnswerIgnoresObserver e) :
    AnswerIgnoresObserver fun s => microOp p s (e s) :=
  .ite (fun _ => rfl) (.ite (fun _ => rfl) (.fault _) he) (.next .id)

theorem IgnoresObserver.microEffect (p : BitVec 3) (hf : IgnoresObserver f) : IgnoresObserver (microEffect p f) :=
  .ite (fun _ => rfl) hf .id

theorem IgnoresObserver.repeatEffect (hf : IgnoresObserver f) : ∀ n, IgnoresObserver (repeatEffect n f)
  | 0 => .id
  | n + 1 => (IgnoresObserver.repeatEffect hf n).comp hf

/-- The bus answers from the environment's draws alone (R146), so a call reads no more than its two effects do. -/
theorem IgnoresObserver.busCall (p : BusPhase) (hok : IgnoresObserver f) (herr : IgnoresObserver g) :
    IgnoresObserver (busCall p f g) := by
  intro s
  have hskip : IgnoresObserver fun t => t.skip p := fun _ => rfl
  obtain ⟨h, hs⟩ | ⟨h, hs⟩ | ⟨h, hs⟩ := busCall_cases p f g s <;>
    rw [hs, Machine.busCall, State.hideObserver_nextBus, h]
  · exact hok.comp (f := State.takeBus) (fun _ => rfl) s
  · exact (hskip.comp herr).comp (f := State.takeBus) (fun _ => rfl) s
  · rfl

end Combinators

/-! ### The host's commands -/

theorem commitCycle_ignoresObserver : IgnoresObserver State.commitCycle := by
  intro s
  simp only [State.commitCycle, State.hideObserver_nextNvWrite]
  cases s.nextNvWrite <;> rfl

theorem finishAt_ignoresObserver (i : Nat) (more : Hop) : IgnoresObserver fun s => s.finishAt i more :=
  .ite (fun _ => rfl) (fun _ => rfl) (fun _ => rfl)

theorem stopJoin_ignoresObserver : IgnoresObserver stopJoin := .ite (fun _ => rfl) .id (fun _ => rfl)

theorem fillMicroStep_ignoresObserver (layer : Layer) (v : Byte) (i : Nat) :
    AnswerIgnoresObserver (fillMicroStep layer v i) :=
  .ite (fun _ => rfl) (.memWrite (fun _ => rfl) v (finishAt_ignoresObserver i _)) (.next fun _ => rfl)

theorem deriveMicroStep_ignoresObserver (i : Nat) : AnswerIgnoresObserver (deriveMicroStep i) :=
  .ite (fun _ => rfl)
    (.memRead (fun _ => rfl) fun va => .memRead (fun _ => rfl) fun vb =>
      .memWrite (fun _ => rfl) (va &&& vb) (finishAt_ignoresObserver i _))
    (.next fun _ => rfl)

theorem execSetpx_ignoresObserver (layer : Layer) (x y : BitVec 8) (bit : Bool) :
    AnswerIgnoresObserver (execSetpx layer x y bit) :=
  .capGuard <| .ite (fun _ => rfl) (.next fun _ => rfl) <|
    .memRead (fun _ => rfl) fun old => .memWrite (fun _ => rfl) (setLane old y.toNat bit) fun _ => rfl

theorem execWrbyte_ignoresObserver (buf : Buf) (index : BitVec 14) (value : Byte) :
    AnswerIgnoresObserver (execWrbyte buf index value) :=
  .capGuard <| .ite (fun _ => rfl) (.next fun _ => rfl) <| .memWrite (fun _ => rfl) value fun _ => rfl

theorem execRdbyte_ignoresObserver (buf : Buf) (index : BitVec 14) : AnswerIgnoresObserver (execRdbyte buf index) :=
  .capGuard <| .ite (fun _ => rfl) (.next fun _ => rfl) <| .memRead (fun _ => rfl) fun _ => .next fun _ => rfl

/-! ### The engine's micro-operations -/

theorem fetchEffect_ignoresObserver (src : Buf) (num den : BitVec 7) : IgnoresObserver (fetchEffect src num den) :=
  .ite (fun _ => rfl) (fun _ => rfl) (fun _ => rfl)

theorem parkEffect_ignoresObserver : IgnoresObserver parkEffect := .busCall .park (fun _ => rfl) (fun _ => rfl)

theorem pwaitEffect_ignoresObserver : IgnoresObserver pwaitEffect := fun _ => rfl

theorem transmitEffect_ignoresObserver : IgnoresObserver transmitEffect :=
  .busCall .load (fun _ => rfl) (fun _ => rfl)

theorem readEffect_ignoresObserver : IgnoresObserver readEffect := fun _ => rfl

theorem loadEffect_ignoresObserver : IgnoresObserver loadEffect :=
  .ite (fun _ => rfl) readEffect_ignoresObserver transmitEffect_ignoresObserver

theorem unparkEffect_ignoresObserver : IgnoresObserver unparkEffect := .busCall .unpark (fun _ => rfl) (fun _ => rfl)

theorem xwaitEffect_ignoresObserver : IgnoresObserver xwaitEffect := fun _ => rfl

theorem execFetch_ignoresObserver : AnswerIgnoresObserver execFetch := by
  refine .microOp phaseFetch (.ite (fun _ => rfl) (.next fun _ => rfl) fun s => ?_)
  rw [State.hideObserver_planEntry]
  cases s.planEntry with
  | none => rfl
  | some entry => rfl

theorem execLoad_ignoresObserver : AnswerIgnoresObserver execLoad :=
  .microOp phaseLoad <| .ite (fun _ => rfl) (.fault _) <|
    .ite (fun _ => rfl) (.memRead (fun _ => rfl) fun _ => .next readEffect_ignoresObserver)
      (.next transmitEffect_ignoresObserver)

/-- A SHOW is its micro-operations in order (R160); the count of LOADs is a matter of the configuration. -/
theorem showEffect_ignoresObserver (src : Buf) (num den : BitVec 7) : IgnoresObserver (showEffect src num den) := by
  intro s
  have hloads := (loadEffect_ignoresObserver.microEffect phaseLoad).repeatEffect (s.cfg.frameBytes + 1)
  exact (xwaitEffect_ignoresObserver.microEffect phaseXwait).comp
    ((unparkEffect_ignoresObserver.microEffect phaseUnpark).comp
      (hloads.comp
        ((pwaitEffect_ignoresObserver.microEffect phasePwait).comp
          ((parkEffect_ignoresObserver.microEffect phasePark).comp
            (fetchEffect_ignoresObserver src num den))))) s

theorem execShowEntry_ignoresObserver (src : Buf) (num den : BitVec 7) :
    AnswerIgnoresObserver (execShowEntry src num den) :=
  .microOp phaseFetch <|
    .ite (fun _ => rfl) (.next (showEffect_ignoresObserver src num den)) (.refused _)

/-! ### Every instruction, every agent -/

theorem exec_ignoresObserver (i : Instr) : AnswerIgnoresObserver (exec i) := by
  cases i with
  | start => exact .capGuard <| .next <|
      IgnoresObserver.comp (g := fun t => t.respond .ok 0#32) (fun _ => rfl) (.ite (fun _ => rfl) .id fun _ => rfl)
  | stop => exact .capGuard <| .next <| .ite (fun _ => rfl) (fun _ => rfl) (fun _ => rfl)
  | gson => exact .capGuard fun _ => rfl
  | gsoff => exact .capGuard fun _ => rfl
  | rdcsr csr => exact fun s => by cases csr <;> rfl
  | getcyc => exact .capGuard fun _ => rfl
  | adjc delta => exact .capGuard fun _ => rfl
  | adjf delta => exact .capGuard fun _ => rfl
  | commit => exact .capGuard <| .next <| .ite (fun _ => rfl) (fun _ => rfl) commitCycle_ignoresObserver
  | reload => exact .capGuard <| .next <| .ite (fun _ => rfl) (fun _ => rfl) (fun _ => rfl)
  | setpx layer x y bit => exact execSetpx_ignoresObserver layer x y bit
  | fill layer bit => exact .capGuard <| (fillMicroStep_ignoresObserver layer (fillByte bit) 0).comp fun _ => rfl
  | derive => exact .capGuard <| (deriveMicroStep_ignoresObserver 0).comp fun _ => rfl
  | resolve bitA bitB => exact .capGuard fun _ => rfl
  | wrbyte buf index value => exact execWrbyte_ignoresObserver buf index value
  | rdbyte buf index => exact execRdbyte_ignoresObserver buf index
  | showEntry src num den => exact execShowEntry_ignoresObserver src num den
  | fetch => exact execFetch_ignoresObserver
  | park => exact .microOp phasePark (.next parkEffect_ignoresObserver)
  | pwait => exact .microOp phasePwait (.next pwaitEffect_ignoresObserver)
  | load => exact execLoad_ignoresObserver
  | unpark => exact .microOp phaseUnpark (.next unparkEffect_ignoresObserver)
  | xwait => exact .microOp phaseXwait <| .ite (fun _ => rfl) (.fault _) (.next xwaitEffect_ignoresObserver)

/-- What a move answers once it is made: the second half of `step`. -/
def Move.answer : Move → Result
  | .run i t => exec i t
  | .done r => r

theorem step_eq_answer (s : State) : step s = (nextMove s).answer := by
  cases h : nextMove s <;> simp [step, h, Move.answer]

theorem hostContinue_ignoresObserver : AnswerIgnoresObserver hostContinue := by
  intro s
  simp only [hostContinue, State.hideObserver_hop]
  cases s.hop with
  | none => rfl
  | fill layer v i => exact fillMicroStep_ignoresObserver layer v i s
  | derive i => exact deriveMicroStep_ignoresObserver i s
  | stopwait => exact stopJoin_ignoresObserver s

theorem hostMove_ignoresObserver : AnswerIgnoresObserver fun s => (hostMove s).answer := by
  intro s
  simp only [hostMove, State.hideObserver_hop, State.hideObserver_env]
  cases s.hop with
  | none =>
    cases s.env.words with
    | nil => rfl
    | cons cmd rest =>
      dsimp only
      cases decodeCommand cmd with
      | ok i => exact exec_ignoresObserver i (s.acceptWord rest)
      | error r => rfl
  | _ => exact hostContinue_ignoresObserver s

theorem engineMove_ignoresObserver : AnswerIgnoresObserver fun s => (engineMove s).answer := by
  intro s
  by_cases h : s.run = true
  · have h' : s.hideObserver.run = true := h
    simp only [engineMove, if_pos h, if_pos h', State.hideObserver_phase]
    cases decodePhase s.phase with
    | ok i => exact exec_ignoresObserver i s
    | error r =>
      have hstuck : AnswerIgnoresObserver fun t => if t.phase = phaseIdle then .next t else .fault .reservedState :=
        .ite (fun _ => rfl) (.next .id) (.fault _)
      exact hstuck s
  · have h' : ¬ s.hideObserver.run = true := h
    simp only [engineMove, if_neg h, if_neg h']
    rfl

theorem subframeMove_ignoresObserver : AnswerIgnoresObserver fun s => (subframeMove s).answer := by
  intro s
  by_cases h : (s.run && s.phase == phaseFetch) = true
  · have h' : (s.hideObserver.run && s.hideObserver.phase == phaseFetch) = true := h
    simp only [subframeMove, if_pos h, if_pos h', State.hideObserver_planEntry]
    cases s.planEntry with
    | none => exact engineMove_ignoresObserver s
    | some entry => exact execShowEntry_ignoresObserver entry.1 entry.2.1 entry.2.2 s
  · have h' : ¬ (s.hideObserver.run && s.hideObserver.phase == phaseFetch) = true := h
    simp only [subframeMove, if_neg h, if_neg h']
    exact engineMove_ignoresObserver s

/-- The reset clears TRACE and the shadow whatever they hold, and leaves the responses (R270). -/
theorem resetSequence_ignoresObserver (parCap : Bool) : IgnoresObserver (resetSequence parCap) := by
  intro s
  simp only [resetSequence, State.hideObserver_dropHungCall]
  rfl

theorem step_ignoresObserver : AnswerIgnoresObserver step := by
  intro s
  have htake : IgnoresObserver State.takePick := fun _ => rfl
  rw [step_eq_answer, step_eq_answer, nextMove, nextMove, State.hideObserver_nextPick]
  cases s.nextPick with
  | host => exact hostMove_ignoresObserver.comp htake s
  | engine => exact engineMove_ignoresObserver.comp htake s
  | subframe => exact subframeMove_ignoresObserver.comp htake s
  | reset parCap => exact (resetSequence_ignoresObserver parCap).comp htake s

end Sys2Proof.Machine

/-- Settles O55: each of the two steps agrees with the step of the one state both look like. -/
theorem observerStateIsNeverRead : Obligations.ObserverStateIsNeverRead := fun _ _ h =>
  Sys2Proof.Machine.step_ignoresObserver.agree h

end

section
/-!
SUPPORT. O6: the move of each picked agent, in each case that `nextMove` distinguishes, and what the step makes of it.
-/

namespace Sys2Proof.Machine

variable {s : State}

theorem step_of_run {t : State} {i : Instr} (h : nextMove s = .run i t) : step s = exec i t := by
  simp only [step, h]

theorem step_of_done {r : Result} (h : nextMove s = .done r) : step s = r := by simp only [step, h]

@[simp] theorem Env.takePick_words (e : Env) : e.takePick.words = e.words := by
  unfold Env.takePick
  split <;> rfl

/-! ### The host -/

/-- With a free port the next word, when it spells a command, is run (R34, R90). -/
theorem nextMove_host_decodes {w : Word} {rest : List Word} {i : Instr} (hpick : s.nextPick = .host)
    (hhop : s.hop = .none) (hwords : s.env.words = w :: rest) (hdecode : decodeCommand w = .ok i) :
    nextMove s = .run i (s.takePick.acceptWord rest) := by
  simp only [nextMove, hpick, hostMove, State.takePick_hop, hhop, State.takePick_env, Env.takePick_words, hwords,
    hdecode]

/-- A word that spells none is answered (R106, R232). -/
theorem step_host_rejects {w : Word} {rest : List Word} {why : Reject} (hpick : s.nextPick = .host)
    (hhop : s.hop = .none) (hwords : s.env.words = w :: rest) (hdecode : decodeCommand w = .error why) :
    step s = .next ((s.takePick.acceptWord rest).respond .illegal 0#32) :=
  step_of_done <| by
    simp only [nextMove, hpick, hostMove, State.takePick_hop, hhop, State.takePick_env, Env.takePick_words, hwords,
      hdecode, State.raise_eq]

theorem step_host_idle (hpick : s.nextPick = .host) (hhop : s.hop = .none) (hwords : s.env.words = []) :
    step s = .next s.takePick :=
  step_of_done <| by
    simp only [nextMove, hpick, hostMove, State.takePick_hop, hhop, State.takePick_env, Env.takePick_words, hwords]

theorem step_host_fill {layer : Layer} {v : Byte} {i : Nat} (hpick : s.nextPick = .host)
    (hhop : s.hop = .fill layer v i) :
    step s = fillMicroStep layer v i s.takePick :=
  step_of_done <| by simp only [nextMove, hpick, hostMove, hostContinue, State.takePick_hop, hhop]

theorem step_host_derive {i : Nat} (hpick : s.nextPick = .host) (hhop : s.hop = .derive i) :
    step s = deriveMicroStep i s.takePick :=
  step_of_done <| by simp only [nextMove, hpick, hostMove, hostContinue, State.takePick_hop, hhop]

theorem step_host_stopwait (hpick : s.nextPick = .host) (hhop : s.hop = .stopwait) :
    step s = .next (stopJoin s.takePick) :=
  step_of_done <| by simp only [nextMove, hpick, hostMove, hostContinue, State.takePick_hop, hhop]

/-! ### The engine and the reset -/

/-- A running engine runs the micro-operation that `PHASE` names (R43, R160). -/
theorem nextMove_engine_decodes {i : Instr} (hpick : s.nextPick = .engine) (hrun : s.run = true)
    (hdecode : decodePhase s.phase = .ok i) : nextMove s = .run i s.takePick := by
  simp only [nextMove, hpick, engineMove, State.takePick_run, hrun, State.takePick_phase, hdecode, if_true]

/-- `PHASE = 7` names none and stops the engine (U12 b). -/
theorem step_engine_reserved (hpick : s.nextPick = .engine) (hrun : s.run = true) (hphase : s.phase = 7#3) :
    step s = .fault .reservedState :=
  step_of_done <| by
    simp [nextMove, hpick, engineMove, hrun, hphase, decodePhase, phaseIdle]

/-- A pick of a whole sub-frame step at a FETCH runs the SHOW word of the plan (R160). -/
theorem nextMove_subframe_show {src : Buf} {num den : BitVec 7} (hpick : s.nextPick = .subframe) (hrun : s.run = true)
    (hphase : s.phase = phaseFetch) (hentry : s.planEntry = some (src, num, den)) :
    nextMove s = .run (.showEntry src num den) s.takePick := by
  have hentry' : s.takePick.planEntry = some (src, num, den) := hentry
  simp [nextMove, hpick, subframeMove, hrun, hphase, hentry']

theorem step_reset {parCap : Bool} (hpick : s.nextPick = .reset parCap) :
    step s = .next (resetSequence parCap s.takePick) :=
  step_of_done <| by simp only [nextMove, hpick]

end Sys2Proof.Machine

open Sys2Proof.Machine

/-- Settles O6: in each of the three cases the move is the decoded instruction, in the state that the pick and the word
leave. -/
theorem stepRunsTheDecodedInstruction : Obligations.StepRunsTheDecodedInstruction :=
  ⟨fun _ _ _ _ hpick hhop hwords hdecode => step_of_run (nextMove_host_decodes hpick hhop hwords hdecode),
    fun _ _ hpick hrun hdecode => step_of_run (nextMove_engine_decodes hpick hrun hdecode),
    fun _ _ _ _ hpick hrun hphase hentry => step_of_run (nextMove_subframe_show hpick hrun hphase hentry)⟩

end

section
/-!
SUPPORT. What the engine can do in a step, said once: each effect of a micro-operation on the state, and the principle
that a pick of the engine keeps whatever every such effect keeps. A whole SHOW is a run of them (R160).
-/

namespace Sys2Proof.Machine

/-! ### The effects of the engine -/

/-- The effects of the engine's micro-operations, where each is enabled, by the bus answers (R141 to R144, R161 to
R163, R237, R238). -/
inductive EngineEffect (s : State) : State → Prop
  /-- FETCH with a stop pending -/
  | exit (hrun : s.run = true) (hphase : s.phase = phaseFetch) (hstop : s.stopReq = true) :
    EngineEffect s s.exitEngine
  /-- FETCH with none -/
  | latch (src : Buf) (num den : BitVec 7) (hrun : s.run = true) (hphase : s.phase = phaseFetch)
    (hstop : s.stopReq = false) (hfraction : fractionWellFormed num den = true) : EngineEffect s (s.latch src num den)
  | parked (hrun : s.run = true) (hphase : s.phase = phasePark) (hbus : s.nextBus = .ok) :
    EngineEffect s
      (((s.takeBus.pushEvent (.cmd (parkBytes s.cfg))).withDmux (some s.cfg.parkRows)).withPhase phasePwait)
  | parkFailed (hrun : s.run = true) (hphase : s.phase = phasePark) (hbus : s.nextBus = .err) :
    EngineEffect s ((s.takeBus.withDmux none).skip .park)
  | waited (hrun : s.run = true) (hphase : s.phase = phasePwait) : EngineEffect s (pwaitEffect s)
  | read (hrun : s.run = true) (hphase : s.phase = phaseLoad) (hindex : s.lidx < s.cfg.frameBytes) :
    EngineEffect s (readEffect s)
  | sent (hrun : s.run = true) (hphase : s.phase = phaseLoad) (hindex : s.cfg.frameBytes ≤ s.lidx)
    (hbus : s.nextBus = .ok) :
    EngineEffect s
      (((s.takeBus.pushEvent (.data s.tx)).withDframe (some s.tx)).clearTx.withPhase phaseUnpark)
  | sendFailed (hrun : s.run = true) (hphase : s.phase = phaseLoad) (hindex : s.cfg.frameBytes ≤ s.lidx)
    (hbus : s.nextBus = .err) : EngineEffect s ((s.takeBus.withDframe none).clearTx.skip .load)
  | unparked (hrun : s.run = true) (hphase : s.phase = phaseUnpark) (hbus : s.nextBus = .ok) :
    EngineEffect s
      (((s.takeBus.pushEvent (.cmd (unparkBytes s.cfg s.curSrc))).withDmux (some s.cfg.unparkRows)).withPhase
        phaseXwait)
  | unparkFailed (hrun : s.run = true) (hphase : s.phase = phaseUnpark) (hbus : s.nextBus = .err) :
    EngineEffect s ((s.takeBus.withDmux none).skip .unpark)
  | exposed (hrun : s.run = true) (hphase : s.phase = phaseXwait) : EngineEffect s (xwaitEffect s)
  /-- a bus call that does not return -/
  | hung (hrun : s.run = true) (hbus : s.nextBus = .never) : EngineEffect s s

theorem EngineEffect.park {s : State} (hrun : s.run = true) (hphase : s.phase = phasePark) :
    EngineEffect s (parkEffect s) := by
  unfold parkEffect
  obtain ⟨hbus, he⟩ | ⟨hbus, he⟩ | ⟨hbus, he⟩ := busCall_cases .park _ _ s <;> rw [he]
  · exact .parked hrun hphase hbus
  · exact .parkFailed hrun hphase hbus
  · exact .hung hrun hbus

theorem EngineEffect.load {s : State} (hrun : s.run = true) (hphase : s.phase = phaseLoad) :
    EngineEffect s (loadEffect s) := by
  unfold loadEffect transmitEffect
  split
  · exact .read hrun hphase ‹_›
  · have hindex : s.cfg.frameBytes ≤ s.lidx := by omega
    obtain ⟨hbus, he⟩ | ⟨hbus, he⟩ | ⟨hbus, he⟩ := busCall_cases .load _ _ s <;> rw [he]
    · exact .sent hrun hphase hindex hbus
    · exact .sendFailed hrun hphase hindex hbus
    · exact .hung hrun hbus

theorem EngineEffect.unpark {s : State} (hrun : s.run = true) (hphase : s.phase = phaseUnpark) :
    EngineEffect s (unparkEffect s) := by
  unfold unparkEffect
  obtain ⟨hbus, he⟩ | ⟨hbus, he⟩ | ⟨hbus, he⟩ := busCall_cases .unpark _ _ s <;> rw [he]
  · exact .unparked hrun hphase hbus
  · exact .unparkFailed hrun hphase hbus
  · exact .hung hrun hbus

/-- The codes that name a micro-operation, and which (R26, R109). -/
theorem decodePhase_cases {p : BitVec 3} {i : Instr} (h : decodePhase p = .ok i) :
    (p = phaseFetch ∧ i = .fetch) ∨ (p = phasePark ∧ i = .park) ∨ (p = phasePwait ∧ i = .pwait) ∨
      (p = phaseLoad ∧ i = .load) ∨ (p = phaseUnpark ∧ i = .unpark) ∨ (p = phaseXwait ∧ i = .xwait) := by
  unfold decodePhase at h
  split at h <;> cases h <;> simp [phaseFetch, phasePark, phasePwait, phaseLoad, phaseUnpark, phaseXwait]

theorem execFetch_next {s t : State} (h : execFetch s = .next t) : t = s ∨ EngineEffect s t := by
  rcases (microOp_next _ _ _ _).1 h with ⟨hrun, hphase, _, he⟩ | ⟨_, rfl⟩
  · cases hstop : s.stopReq with
    | true =>
      obtain rfl : s.exitEngine = t := by simpa [hstop] using he
      exact .inr (.exit hrun hphase hstop)
    | false =>
      cases hentry : s.planEntry with
      | none => simp [hstop, hentry] at he
      | some entry =>
        obtain rfl : s.latch entry.1 entry.2.1 entry.2.2 = t := by simpa [hstop, hentry] using he
        exact .inr (.latch _ _ _ hrun hphase hstop (planEntry_wellFormed s _ _ _ hentry))
  · exact .inl rfl

theorem execLoad_next {s t : State} (h : execLoad s = .next t) : t = s ∨ EngineEffect s t := by
  rcases (microOp_next _ _ _ _).1 h with ⟨hrun, hphase, _, he⟩ | ⟨_, rfl⟩
  · have heffect : t = loadEffect s := by
      unfold loadEffect
      split at he
      · cases he
      · split at he
        · obtain ⟨_, _, he⟩ := (orNoSuchAddress_next _ _ _).1 he
          cases he
          simp [*]
        · cases he
          simp [*]
    exact .inr (heffect ▸ .load hrun hphase)
  · exact .inl rfl

/-- A micro-operation whose only answer where it is enabled is an effect of the engine. -/
theorem microOp_effect {p : BitVec 3} {f : State → State} {s t : State} (h : microOp p s (.next (f s)) = .next t)
    (hf : s.run = true → s.phase = p → EngineEffect s (f s)) : t = s ∨ EngineEffect s t := by
  rcases (microOp_next _ _ _ _).1 h with ⟨hrun, hphase, _, he⟩ | ⟨_, rfl⟩
  · cases he
    exact .inr (hf hrun hphase)
  · exact .inl rfl

theorem execXwait_next {s t : State} (h : execXwait s = .next t) : t = s ∨ EngineEffect s t := by
  unfold execXwait at h
  by_cases hden : s.curDen = 0#7
  · rcases (microOp_next _ _ _ _).1 h with ⟨_, _, _, he⟩ | ⟨_, rfl⟩
    · simp [hden] at he
    · exact .inl rfl
  · rw [if_neg hden] at h
    exact microOp_effect h .exposed

/-- A micro-operation run by its phase has one effect of the engine, or none. -/
theorem exec_phase_next {s t : State} {p : BitVec 3} {i : Instr} (hdecode : decodePhase p = .ok i)
    (h : exec i s = .next t) : t = s ∨ EngineEffect s t := by
  obtain ⟨_, rfl⟩ | ⟨_, rfl⟩ | ⟨_, rfl⟩ | ⟨_, rfl⟩ | ⟨_, rfl⟩ | ⟨_, rfl⟩ := decodePhase_cases hdecode
  · exact execFetch_next h
  · exact microOp_effect h .park
  · exact microOp_effect h .waited
  · exact execLoad_next h
  · exact microOp_effect h .unpark
  · exact execXwait_next h

/-! ### A whole SHOW -/

theorem repeatEffect_keeps {P : State → Prop} {f : State → State} (hf : ∀ u, P u → P (f u)) :
    ∀ (n : Nat) (s : State), P s → P (repeatEffect n f s)
  | 0, _, h => h
  | n + 1, s, h => repeatEffect_keeps hf n (f s) (hf s h)

section ShowRun

variable {P : State → Prop} (hP : ∀ u v, P u → EngineEffect u v → P v)
include hP

/-- Inside a SHOW, a micro-operation keeps what the engine's effects keep. -/
theorem microEffect_keeps {p : BitVec 3} {f : State → State}
    (hf : ∀ u : State, u.run = true → u.phase = p → EngineEffect u (f u)) (s : State) (h : P s) :
    P (microEffect p f s) := by
  obtain ⟨hrun, hphase, he⟩ | ⟨_, he⟩ := microEffect_cases p f s
  · rw [he]
    exact hP _ _ h (hf s hrun hphase)
  · rwa [he]

theorem fetchEffect_keeps {src : Buf} {num den : BitVec 7} (hfraction : fractionWellFormed num den = true) {s : State}
    (hrun : s.run = true) (hphase : s.phase = phaseFetch) (h : P s) : P (fetchEffect src num den s) := by
  cases hstop : s.stopReq with
  | true => simpa [fetchEffect, hstop] using hP _ _ h (.exit hrun hphase hstop)
  | false => simpa [fetchEffect, hstop] using hP _ _ h (.latch src num den hrun hphase hstop hfraction)

/-- A SHOW keeps what every effect of the engine keeps: it is a run of them (R160). -/
theorem showEffect_keeps {src : Buf} {num den : BitVec 7} (hfraction : fractionWellFormed num den = true) {s : State}
    (hrun : s.run = true) (hphase : s.phase = phaseFetch) (h : P s) : P (showEffect src num den s) := by
  have hfetch := fetchEffect_keeps hP (src := src) hfraction hrun hphase h
  have hpark := microEffect_keeps hP (fun _ => .park) _ hfetch
  have hpwait := microEffect_keeps hP (fun _ => .waited) _ hpark
  have hload := repeatEffect_keeps (microEffect_keeps hP fun _ => .load) (s.cfg.frameBytes + 1) _ hpwait
  have hunpark := microEffect_keeps hP (fun _ => .unpark) _ hload
  exact microEffect_keeps hP (fun _ => .exposed) _ hunpark

end ShowRun

/-! ### A pick of the engine -/

/-- What a pick of the engine does after its use: nothing, one effect of a micro-operation, or a whole SHOW where a
sub-frame step begins. -/
inductive EngineStep (s : State) : State → Prop
  | none : EngineStep s s
  | one {t : State} (h : EngineEffect s t) : EngineStep s t
  | whole (src : Buf) (num den : BitVec 7) (hrun : s.run = true) (hphase : s.phase = phaseFetch)
    (hfraction : fractionWellFormed num den = true) : EngineStep s (showEffect src num den s)

theorem engineMove_next {s t : State} (h : (engineMove s).answer = .next t) : EngineStep s t := by
  cases hmove : engineMove s with
  | run i u =>
    obtain ⟨_, hdecode, rfl⟩ := engineMove_run s u i hmove
    rw [hmove] at h
    obtain rfl | heffect := exec_phase_next hdecode h
    · exact .none
    · exact .one heffect
  | done r =>
    rw [hmove] at h
    obtain rfl : r = .next t := h
    have : t = s := by
      unfold engineMove at hmove
      split at hmove
      · split at hmove
        · cases hmove
        · split at hmove <;> cases hmove
          rfl
      · cases hmove
        rfl
    exact this ▸ .none

theorem execShowEntry_next {s t : State} {src : Buf} {num den : BitVec 7}
    (h : execShowEntry src num den s = .next t) :
    EngineStep s t := by
  rcases (microOp_next _ _ _ _).1 h with ⟨hrun, hphase, _, he⟩ | ⟨_, rfl⟩
  · split at he
    · rename_i hfraction
      cases he
      exact .whole src num den hrun hphase hfraction
    · cases he
  · exact .none

/-- Every pick of the engine, whichever of the two kinds, is such a step (R43, R160). -/
theorem step_engine {s t : State} (hpick : enginePick s.nextPick = true) (h : step s = .next t) :
    EngineStep s.takePick t := by
  rw [step_eq_answer] at h
  obtain ⟨hp, _⟩ | ⟨_, hmove⟩ | ⟨_, hmove⟩ | ⟨_, hp, _⟩ := nextMove_cases s
  · simp [hp, enginePick] at hpick
  · exact engineMove_next (hmove ▸ h)
  · rw [hmove] at h
    obtain ⟨src, num, den, _, _, _, hshow⟩ | hengine := subframeMove_cases s.takePick
    · rw [hshow] at h
      exact execShowEntry_next h
    · exact engineMove_next (hengine ▸ h)
  · simp [hp, enginePick] at hpick

/-- A step of the engine keeps what every effect of a micro-operation keeps. -/
theorem EngineStep.keeps {P : State → Prop} (hP : ∀ u v, P u → EngineEffect u v → P v) {s t : State}
    (h : EngineStep s t) (hs : P s) : P t := by
  cases h with
  | none => exact hs
  | one heffect => exact hP _ _ hs heffect
  | whole src num den hrun hphase hfraction => exact showEffect_keeps hP hfraction hrun hphase hs

end Sys2Proof.Machine

end

section
/-!
SUPPORT. O52 and the engine's half of O51. Every effect of a micro-operation keeps the engine's frame, so a step of the
engine does; and the engine leaves RUN only from a FETCH with a stop pending.
-/

namespace Sys2Proof.Machine

/-! ### The frame -/

/-- The state without what the engine may write and without the draws and picks it uses up: buffers, store,
configuration, the host-side registers, the responses and the host's inputs are left in view. -/
def State.outsideEngine (s : State) : State :=
  { s with
    env := { s.env with picks := [], bus := [], pickDraws := 0, busDraws := 0 }
    run := false
    stopReq := false
    stepIx := 0#2
    phase := phaseIdle
    curSrc := 0#2
    curNum := 0#7
    curDen := 0#7
    lidx := 0
    tx := []
    terrCnt := 0#32
    trace := []
    dmux := none
    dframe := none }

theorem State.outsideEngine_takeBus (s : State) : s.takeBus.outsideEngine = s.outsideEngine := by
  cases h : s.env.bus <;> simp [State.outsideEngine, State.takeBus, Env.takeBus, h]

theorem State.outsideEngine_takePick (s : State) : s.takePick.outsideEngine = s.outsideEngine := by
  cases h : s.env.picks <;> simp [State.outsideEngine, State.takePick, Env.takePick, h]

/-- The engine's frame between two states; TRACE is only appended to (R36). -/
structure EngineKeeps (s t : State) : Prop where
  outside : t.outsideEngine = s.outsideEngine
  trace : ∃ events, t.trace = s.trace ++ events

/-- A change of the engine's registers and inputs alone that records nothing. -/
theorem EngineKeeps.of_silent {s t : State} (hout : t.outsideEngine = s.outsideEngine) (htrace : t.trace = s.trace) :
    EngineKeeps s t :=
  ⟨hout, [], by simp [htrace]⟩

/-- One that records one event. -/
theorem EngineKeeps.of_event {s t : State} (e : Event) (hout : t.outsideEngine = s.outsideEngine)
    (htrace : t.trace = s.trace ++ [e]) : EngineKeeps s t :=
  ⟨hout, [e], htrace⟩

theorem EngineKeeps.trans {s t u : State} (h : EngineKeeps s t) (k : EngineKeeps t u) : EngineKeeps s u := by
  obtain ⟨hout, events, htrace⟩ := h
  obtain ⟨kout, later, ktrace⟩ := k
  exact ⟨kout.trans hout, events ++ later, by rw [ktrace, htrace, List.append_assoc]⟩

theorem EngineKeeps.takePick (s : State) : EngineKeeps s s.takePick := .of_silent s.outsideEngine_takePick rfl

theorem EngineKeeps.takeBus (s : State) : EngineKeeps s s.takeBus := .of_silent s.outsideEngine_takeBus rfl

theorem EngineKeeps.mem {s t : State} (h : EngineKeeps s t) : t.mem = s.mem :=
  (congrArg State.mem h.outside :)

theorem EngineKeeps.cfg {s t : State} (h : EngineKeeps s t) : t.cfg = s.cfg :=
  (congrArg State.cfg h.outside :)

theorem EngineKeeps.memRead {s t : State} (h : EngineKeeps s t) (a : Nat) : t.memRead a = s.memRead a := by
  simp only [State.memRead, h.mem, h.cfg]

theorem EngineEffect.engineKeeps {s t : State} (h : EngineEffect s t) : EngineKeeps s t := by
  cases h with
  | exit => exact .of_silent rfl rfl
  | latch => exact .of_silent rfl rfl
  | parked => exact (EngineKeeps.takeBus s).trans (.of_event _ rfl rfl)
  | parkFailed => exact (EngineKeeps.takeBus s).trans (.of_event _ rfl rfl)
  | waited => exact .of_event _ rfl rfl
  | read => exact .of_silent rfl rfl
  | sent => exact (EngineKeeps.takeBus s).trans (.of_event _ rfl rfl)
  | sendFailed => exact (EngineKeeps.takeBus s).trans (.of_event _ rfl rfl)
  | unparked => exact (EngineKeeps.takeBus s).trans (.of_event _ rfl rfl)
  | unparkFailed => exact (EngineKeeps.takeBus s).trans (.of_event _ rfl rfl)
  | exposed => exact .of_event _ rfl rfl
  | hung => exact .of_silent rfl rfl

theorem step_engineKeeps {s t : State} (hpick : enginePick s.nextPick = true) (h : step s = .next t) :
    EngineKeeps s t :=
  (step_engine hpick h).keeps (P := EngineKeeps s) (fun _ _ hs heffect => hs.trans heffect.engineKeeps) (.takePick s)

/-! ### When the engine leaves RUN -/

/-- Every effect but the exit keeps `RUN` and `STOPREQ` (R211). -/
theorem EngineEffect.exits_or_keeps_run {s t : State} (h : EngineEffect s t) :
    (s.run = true ∧ s.phase = phaseFetch ∧ s.stopReq = true) ∨ (t.run = s.run ∧ t.stopReq = s.stopReq) := by
  cases h with
  | exit hrun hphase hstop => exact .inl ⟨hrun, hphase, hstop⟩
  | _ => exact .inr ⟨rfl, rfl⟩

/-- A step of the engine keeps `RUN`, but for one from a FETCH that finds a stop pending: no effect inside a SHOW sets
the stop flag (R161). -/
theorem EngineStep.exits_or_keeps_run {s t : State} (h : EngineStep s t) :
    (s.run = true ∧ s.phase = phaseFetch ∧ s.stopReq = true) ∨ t.run = s.run := by
  cases h with
  | none => exact .inr rfl
  | one heffect => exact heffect.exits_or_keeps_run.imp_right And.left
  | whole src num den hrun hphase hfraction =>
    by_cases hstop : s.stopReq = true
    · exact .inl ⟨hrun, hphase, hstop⟩
    · have hkeeps (u v : State) (hu : u.run = s.run ∧ u.stopReq = s.stopReq) (heffect : EngineEffect u v) :
          v.run = s.run ∧ v.stopReq = s.stopReq := by
        obtain ⟨_, _, hexit⟩ | ⟨hr, hs⟩ := heffect.exits_or_keeps_run
        · exact absurd (hu.2 ▸ hexit) hstop
        · exact ⟨hr.trans hu.1, hs.trans hu.2⟩
      exact .inr (showEffect_keeps hkeeps hfraction hrun hphase ⟨rfl, rfl⟩).1

end Sys2Proof.Machine

open Sys2Proof.Machine

/-- Settles O52: every effect of a micro-operation keeps the frame, so every pick of the engine does. -/
theorem engineFrame : Obligations.EngineFrame := fun s t hpick hstep => by
  have hkeeps := step_engineKeeps hpick hstep
  have hout := hkeeps.outside
  obtain ⟨events, htrace⟩ := hkeeps.trace
  simp only [State.outsideEngine, State.mk.injEq,
    Env.mk.injEq] at hout
  refine ⟨hkeeps.memRead, ?_⟩
  simp only [hout, true_and]
  exact ⟨events, htrace⟩

end

section
/-!
SUPPORT. What the host can do in a step, said once: the micro-step of a FILL or DERIVE, the effect of each command, the
continuation of a held port.
-/

namespace Sys2Proof.Machine

/-! ### Addresses -/

theorem layerNumber_lt (layer : Layer) : layerNumber layer < 2 := by cases layer <;> decide

/-- Byte `i` of a buffer lies in that buffer's `N` addresses (R61). -/
theorem bufAddr_lt {c : Config} {b k i : Nat} (hb : b < k) (hi : i < c.frameBytes) :
    bufAddr c b i < k * c.frameBytes := by
  have hmul := Nat.mul_le_mul_right c.frameBytes (Nat.succ_le_of_lt hb)
  rw [Nat.succ_mul] at hmul
  simp only [bufAddr]
  omega

/-- A layer's bytes lie below Combined (R61). -/
theorem bufAddr_layer_ne_combined {c : Config} (layer : Layer) {i : Nat} (k : Nat) (hi : i < c.frameBytes) :
    bufAddr c (layerNumber layer) i ≠ bufAddr c 2 k := by
  have hlow := bufAddr_lt (layerNumber_lt layer) hi
  simp only [bufAddr] at hlow ⊢
  omega

/-- The byte of a pixel on the display is a byte of the buffer, when `H` is a multiple of 8 (R6, R62). -/
theorem pixelIndex_lt {c : Config} {x y : Nat} (hh : c.h % 8 = 0) (hx : x < c.w) (hy : y < c.h) :
    pixelIndex c x y < c.frameBytes := by
  have hpage : y / 8 + 1 ≤ c.h / 8 := by omega
  calc pixelIndex c x y
    _ < (y / 8 + 1) * c.w := by rw [pixelIndex, Nat.succ_mul]; omega
    _ ≤ c.h / 8 * c.w := Nat.mul_le_mul_right _ hpage
    _ = c.frameBytes := by rw [Config.frameBytes, Config.pages, Nat.mul_comm]

/-! ### The micro-steps of FILL and DERIVE -/

theorem memRead_of_lt {s : State} {a : Nat} (h : a < 3 * s.cfg.frameBytes) : s.memRead a = some (s.mem.byteAt a) :=
  if_pos h

theorem memWrite_of_lt {s : State} {a : Nat} (v : Byte) (h : a < 3 * s.cfg.frameBytes) :
    s.memWrite a v = some (s.withMem (s.mem.store a v)) := if_pos h

theorem fillMicroStep_of_lt {s : State} (layer : Layer) (v : Byte) {i : Nat} (hi : i < s.cfg.frameBytes) :
    fillMicroStep layer v i s =
      .next ((s.withMem (s.mem.store (bufAddr s.cfg (layerNumber layer) i) v)).finishAt i (.fill layer v (i + 1))) := by
  have haddr := bufAddr_lt (Nat.lt_succ_of_lt (layerNumber_lt layer)) hi
  simp only [fillMicroStep, if_pos hi, memWrite_of_lt v haddr, orNoSuchAddress]

theorem fillMicroStep_of_le {s : State} (layer : Layer) (v : Byte) {i : Nat} (hi : s.cfg.frameBytes ≤ i) :
    fillMicroStep layer v i s = .next ((s.withHop .none).respond .ok 0#32) :=
  if_neg (Nat.not_lt.2 hi)

theorem deriveMicroStep_of_lt {s : State} {i : Nat} (hi : i < s.cfg.frameBytes) :
    deriveMicroStep i s =
      .next ((s.withMem (s.mem.store (bufAddr s.cfg 2 i) (s.bufByte .a i &&& s.bufByte .b i))).finishAt i
        (.derive (i + 1))) := by
  have haddr (b : Nat) (hb : b < 3) := bufAddr_lt (c := s.cfg) hb hi
  simp only [deriveMicroStep, if_pos hi, memRead_of_lt (haddr 0 (by decide)), memRead_of_lt (haddr 1 (by decide)),
    memWrite_of_lt _ (haddr 2 (by decide)), orNoSuchAddress, State.bufByte, bufNumber]

theorem deriveMicroStep_of_le {s : State} {i : Nat} (hi : s.cfg.frameBytes ≤ i) :
    deriveMicroStep i s = .next ((s.withHop .none).respond .ok 0#32) :=
  if_neg (Nat.not_lt.2 hi)

/-- Micro-step `i` of a command that works through buffer `b`: byte `i` is written and the port moves on to `more`, or
answers after the last byte; past the last byte it only answers (R34, R121, R122). -/
inductive PortStep (s : State) (b i : Nat) (more : Hop) : State → Prop
  | goOn (v : Byte) (hi : i + 1 < s.cfg.frameBytes) :
    PortStep s b i more ((s.withMem (s.mem.store (bufAddr s.cfg b i) v)).withHop more)
  | last (v : Byte) (hi : i + 1 = s.cfg.frameBytes) :
    PortStep s b i more (((s.withMem (s.mem.store (bufAddr s.cfg b i) v)).withHop .none).respond .ok 0#32)
  | past (hi : s.cfg.frameBytes ≤ i) : PortStep s b i more ((s.withHop .none).respond .ok 0#32)

theorem PortStep.finishAt {s : State} {b i : Nat} (more : Hop) (v : Byte) (hi : i < s.cfg.frameBytes) :
    PortStep s b i more ((s.withMem (s.mem.store (bufAddr s.cfg b i) v)).finishAt i more) := by
  obtain ⟨hmore, he⟩ | ⟨hlast, he⟩ := finishAt_cases (s.withMem (s.mem.store (bufAddr s.cfg b i) v)) i more <;> rw [he]
  · exact .goOn v hmore
  · exact .last v (Nat.le_antisymm hi hlast)

theorem fillMicroStep_next {s t : State} {layer : Layer} {v : Byte} {i : Nat}
    (h : fillMicroStep layer v i s = .next t) :
    PortStep s (layerNumber layer) i (.fill layer v (i + 1)) t := by
  by_cases hi : i < s.cfg.frameBytes
  · rw [fillMicroStep_of_lt layer v hi] at h
    cases h
    exact .finishAt _ v hi
  · rw [fillMicroStep_of_le layer v (Nat.le_of_not_lt hi)] at h
    cases h
    exact .past (Nat.le_of_not_lt hi)

theorem deriveMicroStep_next {s t : State} {i : Nat} (h : deriveMicroStep i s = .next t) :
    PortStep s 2 i (.derive (i + 1)) t := by
  by_cases hi : i < s.cfg.frameBytes
  · rw [deriveMicroStep_of_lt hi] at h
    cases h
    exact .finishAt _ _ hi
  · rw [deriveMicroStep_of_le (Nat.le_of_not_lt hi)] at h
    cases h
    exact .past (Nat.le_of_not_lt hi)

/-! ### The commands -/

/-- The effects of the host's commands (R120 to R125, R190 to R196, R210 to R215): most commands can only answer; the
others are named where their change is not any command's. -/
inductive CommandEffect (s : State) : Instr → State → Prop
  /-- a response and nothing else: a refusal, a no-op or a read -/
  | answer (i : Instr) (c : Cause) (v : Word) : CommandEffect s i (s.respond c v)
  | launch (hcap : s.capErr = false) (hrun : s.run = false) : CommandEffect s .start (s.launch.respond .ok 0#32)
  | requestStop (hcap : s.capErr = false) (hrun : s.run = true) :
    CommandEffect s .stop { s with stopReq := true, hop := .stopwait }
  | toggle (i : Instr) (on : Bool) : CommandEffect s i ({ s with gs := on }.respond .ok 0#32)
  | adjust (i : Instr) (delta : BitVec 16) (size : Nat) :
    CommandEffect s i (s.setCycle (adjustCycle s.cfg s.cycle delta size))
  | commit : CommandEffect s .commit s.commitCycle
  | reload : CommandEffect s .reload (s.reloadCycle.respond .ok s.loadCycle)
  /-- one byte of a layer -/
  | store (i : Instr) (layer : Layer) (k : Nat) (v : Byte)
    (haddr : bufAddr s.cfg (layerNumber layer) k < 3 * s.cfg.frameBytes)
    (hindex : s.cfg.h % 8 = 0 → k < s.cfg.frameBytes) :
    CommandEffect s i ((s.withMem (s.mem.store (bufAddr s.cfg (layerNumber layer) k) v)).respond .ok 0#32)
  | fill (layer : Layer) (bit : Bool) (hcap : s.capErr = false) {t : State}
    (hstep : PortStep (s.withHop (.fill layer (fillByte bit) 0)) (layerNumber layer) 0
      (.fill layer (fillByte bit) 1) t) :
    CommandEffect s (.fill layer bit) t
  | derive (hcap : s.capErr = false) {t : State} (hstep : PortStep (s.withHop (.derive 0)) 2 0 (.derive 1) t) :
    CommandEffect s .derive t

/-- The prelude of R239 either refuses, which is an answer, or lets the command's own effect through. -/
theorem capGuard_effect {s t : State} {i : Instr} {effect : Result} (h : capGuard s effect = .next t)
    (hi : s.capErr = false → effect = .next t → CommandEffect s i t) : CommandEffect s i t := by
  obtain ⟨_, he⟩ | ⟨hcap, he⟩ := capGuard_cases s effect
  · rw [he] at h
    cases h
    exact .answer i _ _
  · exact hi hcap (he ▸ h)

theorem execSetpx_next {s t : State} {layer : Layer} {x y : BitVec 8} {bit : Bool}
    (h : execSetpx layer x y bit s = .next t) : CommandEffect s (.setpx layer x y bit) t := by
  refine capGuard_effect h fun _ he => ?_
  by_cases hout : s.cfg.w ≤ x.toNat ∨ s.cfg.h ≤ y.toNat
  · rw [if_pos hout] at he
    cases he
    exact .answer _ _ _
  · rw [if_neg hout] at he
    obtain ⟨old, _, he⟩ := (orNoSuchAddress_next _ _ _).1 he
    obtain ⟨u, hwrite, he⟩ := (orNoSuchAddress_next _ _ _).1 he
    obtain ⟨haddr, rfl⟩ := (State.memWrite_eq_some _ _ _ _).1 hwrite
    cases he
    exact .store _ layer _ _ haddr fun hh => pixelIndex_lt hh (by omega) (by omega)

theorem execWrbyte_next {s t : State} {buf : Buf} {index : BitVec 14} {value : Byte}
    (h : execWrbyte buf index value s = .next t) : CommandEffect s (.wrbyte buf index value) t := by
  refine capGuard_effect h fun _ he => ?_
  by_cases hout : buf = .c ∨ s.cfg.frameBytes ≤ index.toNat
  · rw [if_pos hout] at he
    cases he
    exact .answer _ _ _
  · rw [if_neg hout] at he
    obtain ⟨u, hwrite, he⟩ := (orNoSuchAddress_next _ _ _).1 he
    obtain ⟨haddr, rfl⟩ := (State.memWrite_eq_some _ _ _ _).1 hwrite
    cases he
    have hindex : index.toNat < s.cfg.frameBytes := by omega
    cases buf with
    | a => exact .store _ .a _ _ haddr fun _ => hindex
    | b => exact .store _ .b _ _ haddr fun _ => hindex
    | c => exact absurd (.inl rfl) hout

theorem execRdbyte_next {s t : State} {buf : Buf} {index : BitVec 14}
    (h : execRdbyte buf index s = .next t) : CommandEffect s (.rdbyte buf index) t := by
  refine capGuard_effect h fun _ he => ?_
  by_cases hout : s.cfg.frameBytes ≤ index.toNat
  · rw [if_pos hout] at he
    cases he
    exact .answer _ _ _
  · rw [if_neg hout] at he
    obtain ⟨v, _, he⟩ := (orNoSuchAddress_next _ _ _).1 he
    cases he
    exact .answer _ _ _

/-- A command that does one thing while RUNNING and another while STOPPED (R69, R195, R211). -/
theorem effect_by_run {s t u v : State} {i : Instr}
    (h : (.next (if s.run then u else v) : Result) = .next t) (hu : s.run = true → CommandEffect s i u)
    (hv : s.run = false → CommandEffect s i v) : CommandEffect s i t := by
  cases h
  cases hrun : s.run with
  | true => exact hu hrun
  | false => exact hv hrun

/-- Every command has one of the effects, under its own name where the effect bears one. -/
theorem exec_command_next {s t : State} {i : Instr} (hi : hostCommand i = true) (h : exec i s = .next t) :
    CommandEffect s i t := by
  cases i with
  | start =>
    refine capGuard_effect h fun hcap he => ?_
    cases he
    cases hrun : s.run with
    | true => exact .answer _ _ _
    | false => exact .launch hcap hrun
  | stop => exact capGuard_effect h fun hcap he => effect_by_run he (.requestStop hcap) fun _ => .answer _ _ _
  | gson => exact capGuard_effect h fun _ he => by cases he; exact .toggle _ true
  | gsoff => exact capGuard_effect h fun _ he => by cases he; exact .toggle _ false
  | rdcsr csr => cases h; exact .answer _ _ _
  | getcyc => exact capGuard_effect h fun _ he => by cases he; exact .answer _ _ _
  | adjc delta => exact capGuard_effect h fun _ he => by cases he; exact .adjust _ delta _
  | adjf delta => exact capGuard_effect h fun _ he => by cases he; exact .adjust _ delta _
  | commit => exact capGuard_effect h fun _ he => effect_by_run he (fun _ => .answer _ _ _) fun _ => .commit
  | reload => exact capGuard_effect h fun _ he => effect_by_run he (fun _ => .answer _ _ _) fun _ => .reload
  | setpx layer x y bit => exact execSetpx_next h
  | fill layer bit => exact capGuard_effect h fun hcap he => .fill layer bit hcap (fillMicroStep_next he)
  | derive => exact capGuard_effect h fun hcap he => .derive hcap (deriveMicroStep_next he)
  | resolve bitA bitB => exact capGuard_effect h fun _ he => by cases he; exact .answer _ _ _
  | wrbyte buf index value => exact execWrbyte_next h
  | rdbyte buf index => exact execRdbyte_next h
  | _ => cases hi

/-! ### A pick of the host -/

/-- The zero-field check passes on what the rest of the format decodes (R106). -/
theorem checkZero_eq_ok {zero : Bool} {rest : Except Reject Instr} {i : Instr} (h : checkZero zero rest = .ok i) :
    rest = .ok i := by
  cases zero with
  | false => cases h
  | true => exact h

theorem decodeR_eq_ok {w : Word} {i : Instr} (h : decodeR w = .ok i) : ∃ csr, i = .rdcsr csr := by
  have hrest := checkZero_eq_ok h
  split at hrest <;> cases hrest
  exact ⟨_, rfl⟩

theorem decodeWrbyte_eq_ok {w : Word} {i : Instr} (h : decodeWrbyte w = .ok i) :
    ∃ buf index value, i = .wrbyte buf index value := by
  unfold decodeWrbyte at h
  split at h <;> cases h
  exact ⟨_, _, _, rfl⟩

theorem decodeRdbyte_eq_ok {w : Word} {i : Instr} (h : decodeRdbyte w = .ok i) :
    ∃ buf index, i = .rdbyte buf index := by
  have hrest := checkZero_eq_ok h
  split at hrest <;> cases hrest
  exact ⟨_, _, rfl⟩

/-- A command word spells a host command (R98). -/
theorem decodeCommand_hostCommand {w : Word} {i : Instr} (h : decodeCommand w = .ok i) : hostCommand i = true := by
  have hformat {zero : Bool} {j : Instr} (hj : checkZero zero (.ok j) = .ok i) (hhost : hostCommand j = true) :
      hostCommand i = true := by
    cases checkZero_eq_ok hj
    exact hhost
  unfold decodeCommand at h
  split at h
  case h_5 =>
    obtain ⟨_, rfl⟩ := decodeR_eq_ok h
    rfl
  case h_15 =>
    obtain ⟨_, _, _, rfl⟩ := decodeWrbyte_eq_ok h
    rfl
  case h_16 =>
    obtain ⟨_, _, rfl⟩ := decodeRdbyte_eq_ok h
    rfl
  case h_17 => cases h
  all_goals exact hformat h rfl

/-- What a pick of the host does (R34, R90, R121, R122, R212). -/
inductive HostStep (s : State) : State → Prop
  /-- a free port and no word left to present -/
  | idle (hhop : s.hop = .none) (hwords : s.env.words = []) : HostStep s s.takePick
  /-- a word that spells a command -/
  | command (i : Instr) (rest : List Word) {t : State} (hhop : s.hop = .none)
    (hmove : nextMove s = .run i (s.takePick.acceptWord rest))
    (heffect : CommandEffect (s.takePick.acceptWord rest) i t) :
    HostStep s t
  /-- a word that spells none -/
  | illegal (rest : List Word) (hhop : s.hop = .none) :
    HostStep s ((s.takePick.acceptWord rest).respond .illegal 0#32)
  | fill (layer : Layer) (v : Byte) (i : Nat) {t : State} (hhop : s.hop = .fill layer v i)
    (hstep : PortStep s.takePick (layerNumber layer) i (.fill layer v (i + 1)) t) : HostStep s t
  | derive (i : Nat) {t : State} (hhop : s.hop = .derive i) (hstep : PortStep s.takePick 2 i (.derive (i + 1)) t) :
    HostStep s t
  /-- the join half of STOP -/
  | join (hhop : s.hop = .stopwait) (hrun : s.run = false) : HostStep s ((s.takePick.withHop .none).respond .ok 0#32)
  /-- a STOP whose engine still runs -/
  | wait (hhop : s.hop = .stopwait) (hrun : s.run = true) : HostStep s s.takePick

/-- Every pick of the host is such a step. -/
theorem step_host {s t : State} (hpick : s.nextPick = .host) (h : step s = .next t) : HostStep s t := by
  cases hhop : s.hop with
  | none =>
    cases hwords : s.env.words with
    | nil =>
      rw [step_host_idle hpick hhop hwords] at h
      cases h
      exact .idle hhop hwords
    | cons w rest =>
      cases hdecode : decodeCommand w with
      | ok i =>
        have hmove := nextMove_host_decodes hpick hhop hwords hdecode
        rw [step_of_run hmove] at h
        exact .command i rest hhop hmove (exec_command_next (decodeCommand_hostCommand hdecode) h)
      | error why =>
        rw [step_host_rejects hpick hhop hwords hdecode] at h
        cases h
        exact .illegal rest hhop
  | fill layer v i => exact .fill layer v i hhop (fillMicroStep_next (step_host_fill hpick hhop ▸ h))
  | derive i => exact .derive i hhop (deriveMicroStep_next (step_host_derive hpick hhop ▸ h))
  | stopwait =>
    rw [step_host_stopwait hpick hhop] at h
    cases h
    cases hrun : s.run with
    | true => simpa [stopJoin, hrun] using HostStep.wait hhop hrun
    | false => simpa [stopJoin, hrun] using HostStep.join hhop hrun

end Sys2Proof.Machine

end

section
/-!
SUPPORT. What every step can do, and the rules read off it: one response per command (O50), where RUN changes (O51) and
who writes Combined (O30).
-/

namespace Sys2Proof.Machine

/-- A step, by who makes it. -/
theorem step_next {s t : State} (h : step s = .next t) :
    (s.nextPick = .host ∧ HostStep s t) ∨ (enginePick s.nextPick = true ∧ EngineStep s.takePick t) ∨
      ∃ c, s.nextPick = .reset c ∧ t = resetSequence c s.takePick := by
  cases hpick : s.nextPick with
  | host => exact .inl ⟨rfl, step_host hpick h⟩
  | engine => exact .inr (.inl ⟨rfl, step_engine (hpick ▸ rfl) h⟩)
  | subframe => exact .inr (.inl ⟨rfl, step_engine (hpick ▸ rfl) h⟩)
  | reset c =>
    rw [step_reset hpick] at h
    cases h
    exact .inr (.inr ⟨c, rfl, rfl⟩)

/-! ### One response per command -/

/-- A command is complete with one response and the port free, or not answered yet and the port held (R34, R103). -/
def CompletesOrHolds (s t : State) : Prop :=
  (t.hop = .none ∧ ∃ r, t.resp = s.resp ++ [r]) ∨ (t.hop ≠ .none ∧ t.resp = s.resp)

theorem PortStep.completesOrHolds {s t : State} {b i : Nat} {more : Hop} (h : PortStep s b i more t)
    (hmore : more ≠ .none) : CompletesOrHolds s t := by
  cases h with
  | goOn => exact .inr ⟨hmore, rfl⟩
  | last => exact .inl ⟨rfl, _, rfl⟩
  | past => exact .inl ⟨rfl, _, rfl⟩

theorem commitCycle_responds (s : State) : s.commitCycle.hop = s.hop ∧ ∃ r, s.commitCycle.resp = s.resp ++ [r] := by
  unfold State.commitCycle
  split <;> exact ⟨rfl, _, rfl⟩

/-- A command accepted on a free port. -/
theorem CommandEffect.completesOrHolds {s t : State} {i : Instr} (hhop : s.hop = .none) (h : CommandEffect s i t) :
    CompletesOrHolds s t := by
  cases h with
  | answer => exact .inl ⟨hhop, _, rfl⟩
  | launch => exact .inl ⟨hhop, _, rfl⟩
  | requestStop => exact .inr ⟨nofun, rfl⟩
  | toggle => exact .inl ⟨hhop, _, rfl⟩
  | adjust => exact .inl ⟨hhop, _, rfl⟩
  | commit =>
    obtain ⟨hkeep, hresp⟩ := commitCycle_responds s
    exact .inl ⟨hkeep.trans hhop, hresp⟩
  | reload => exact .inl ⟨hhop, _, rfl⟩
  | store => exact .inl ⟨hhop, _, rfl⟩
  | fill layer bit _ hstep => exact (hstep.completesOrHolds nofun :)
  | derive _ hstep => exact (hstep.completesOrHolds nofun :)

theorem HostStep.completesOrHolds {s t : State} (hport : s.hop ≠ .none ∨ s.env.words ≠ []) (h : HostStep s t) :
    CompletesOrHolds s t := by
  cases h with
  | idle hhop hwords => exact absurd hport (by simp [hhop, hwords])
  | command i rest hhop _ heffect => exact heffect.completesOrHolds (s := s.takePick.acceptWord rest) hhop
  | illegal rest hhop => exact .inl ⟨hhop, _, rfl⟩
  | fill layer v i _ hstep => exact (hstep.completesOrHolds nofun :)
  | derive i _ hstep => exact (hstep.completesOrHolds nofun :)
  | join => exact .inl ⟨rfl, _, rfl⟩
  | wait hhop => exact .inr ⟨by simp [hhop], rfl⟩

/-! ### Where RUN changes -/

theorem PortStep.run {s t : State} {b i : Nat} {more : Hop} (h : PortStep s b i more t) : t.run = s.run := by
  cases h <;> rfl

theorem commitCycle_run (s : State) : s.commitCycle.run = s.run := by
  unfold State.commitCycle
  split <;> rfl

/-- Only START moves RUN, and only up (R210). -/
theorem CommandEffect.run {s t : State} {i : Instr} (h : CommandEffect s i t) :
    t.run = s.run ∨ (i = .start ∧ s.run = false) := by
  cases h with
  | launch _ hrun => exact .inr ⟨rfl, hrun⟩
  | commit => exact .inl (commitCycle_run s)
  | fill layer bit _ hstep => exact .inl hstep.run
  | derive _ hstep => exact .inl hstep.run
  | _ => exact .inl rfl

theorem HostStep.run {s t : State} (h : HostStep s t) :
    t.run = s.run ∨ (s.run = false ∧ ∃ u, nextMove s = .run .start u) := by
  cases h with
  | command i rest _ hmove heffect =>
    obtain hrun | ⟨rfl, hrun⟩ := heffect.run
    · exact .inl hrun
    · exact .inr ⟨hrun, _, hmove⟩
  | fill layer v i _ hstep => exact .inl hstep.run
  | derive i _ hstep => exact .inl hstep.run
  | _ => exact .inl rfl

/-! ### Who writes Combined -/

/-- Every byte but the one at the micro-step's index reads as before. -/
theorem PortStep.byteAt {s t : State} {b i : Nat} {more : Hop} (h : PortStep s b i more t) {a : Nat}
    (ha : i < s.cfg.frameBytes → a ≠ bufAddr s.cfg b i) : t.mem.byteAt a = s.mem.byteAt a := by
  cases h with
  | goOn v hi => exact Memory.byteAt_store_other _ _ _ _ (ha (by omega))
  | last v hi => exact Memory.byteAt_store_other _ _ _ _ (ha (by omega))
  | past => rfl

theorem commitCycle_mem (s : State) : s.commitCycle.mem = s.mem := by
  unfold State.commitCycle
  split <;> rfl

/-- Of the commands only DERIVE writes Combined: the others write a layer or nothing (R68, R124). -/
theorem CommandEffect.combined {s t : State} {i : Instr} (hheight : s.cfg.h % 8 = 0) (hi : i ≠ .derive)
    (h : CommandEffect s i t) (k : Nat) : t.mem.byteAt (bufAddr s.cfg 2 k) = s.mem.byteAt (bufAddr s.cfg 2 k) := by
  cases h with
  | commit => rw [commitCycle_mem]
  | store _ layer k' v _ hindex =>
    exact Memory.byteAt_store_other _ _ _ _ (bufAddr_layer_ne_combined layer k (hindex hheight)).symm
  | fill layer bit _ hstep => exact hstep.byteAt fun hi => (bufAddr_layer_ne_combined layer k hi).symm
  | derive => exact absurd rfl hi
  | _ => rfl

/-- Of a host's micro-steps only those of DERIVE write Combined, each its own byte (R68, R122). -/
theorem HostStep.combined {s t : State} (hheight : s.cfg.h % 8 = 0) (h : HostStep s t) (k : Nat) :
    t.mem.byteAt (bufAddr s.cfg 2 k) = s.mem.byteAt (bufAddr s.cfg 2 k) ∨ (∃ u, nextMove s = .run .derive u) ∨
      s.hop = .derive k := by
  cases h with
  | command i rest _ hmove heffect =>
    by_cases hi : i = .derive
    · exact .inr (.inl ⟨_, hi ▸ hmove⟩)
    · exact .inl (heffect.combined (s := s.takePick.acceptWord rest) hheight hi k)
  | fill layer v i _ hstep => exact .inl (hstep.byteAt fun hi => (bufAddr_layer_ne_combined layer k hi).symm)
  | derive i hhop hstep =>
    by_cases hik : i = k
    · exact .inr (.inr (hik ▸ hhop))
    · exact .inl (hstep.byteAt fun _ => by simp only [bufAddr, State.takePick_cfg]; omega)
  | _ => exact .inl rfl

theorem PortStep.cfg {s t : State} {b i : Nat} {more : Hop} (h : PortStep s b i more t) : t.cfg = s.cfg := by
  cases h <;> rfl

theorem commitCycle_cfg (s : State) : s.commitCycle.cfg = s.cfg := by
  unfold State.commitCycle
  split <;> rfl

theorem CommandEffect.cfg {s t : State} {i : Instr} (h : CommandEffect s i t) : t.cfg = s.cfg := by
  cases h with
  | commit => exact commitCycle_cfg s
  | fill layer bit _ hstep => exact hstep.cfg
  | derive _ hstep => exact hstep.cfg
  | _ => rfl

theorem HostStep.cfg {s t : State} (h : HostStep s t) : t.cfg = s.cfg := by
  cases h with
  | command i rest _ _ heffect => exact heffect.cfg
  | fill layer v i _ hstep => exact hstep.cfg
  | derive i _ hstep => exact hstep.cfg
  | _ => rfl

end Sys2Proof.Machine

open Sys2Proof.Machine

/-- Settles O50: every way a host's micro-step can go ends complete or holding the port. -/
theorem oneResponsePerCommand : Obligations.OneResponsePerCommand := fun _ _ hpick hport hstep =>
  (step_host hpick hstep).completesOrHolds hport

/-- Settles O51: by the agent that moves. Of the host's commands only START moves RUN, and the engine only from a FETCH
with a stop pending. -/
theorem runChangesOnlyAtStartAndExit : Obligations.RunChangesOnlyAtStartAndExit := by
  intro s t hstep
  have hsame {p q : Prop} (hrun : t.run = s.run) :
      (s.run = false → t.run = true → p) ∧ (s.run = true → t.run = false → q) := by
    rw [hrun]
    exact ⟨fun h h' => by simp [h] at h', fun h h' => by simp [h] at h'⟩
  obtain ⟨_, hhost⟩ | ⟨hpick, hengine⟩ | ⟨c, hpick, rfl⟩ := step_next hstep
  · obtain hrun | ⟨hrun, hstart⟩ := hhost.run
    · exact hsame hrun
    · exact ⟨fun _ _ => hstart, fun h => by simp [hrun] at h⟩
  · obtain ⟨hrun, hphase, hstop⟩ | hrun := hengine.exits_or_keeps_run
    · exact ⟨fun h => by simp [h] at hrun, fun _ _ => .inl ⟨hpick, hphase, hstop⟩⟩
    · exact hsame hrun
  · exact ⟨fun _ ht => by simp [resetSequence] at ht, fun _ _ => .inr ⟨c, hpick⟩⟩

/-- Settles O30: the engine writes no buffer, and of the host's micro-steps only DERIVE's write Combined. -/
theorem onlyDeriveWritesCombined : Obligations.OnlyDeriveWritesCombined := by
  intro s t k hinv hstep hne _
  obtain ⟨hpick, hhost⟩ | ⟨hpick, _⟩ | ⟨c, hpick, _⟩ := step_next hstep
  · obtain hsame | hderive | hhop := hhost.combined hinv.config.height.1 k
    · exact absurd (by rw [State.bufByte, hhost.cfg]; exact hsame) hne
    · exact .inl hderive
    · exact .inr (.inl ⟨hpick, k, hhop, rfl⟩)
  · have hkeeps := step_engineKeeps hpick hstep
    exact absurd (by simp only [State.bufByte, hkeeps.mem, hkeeps.cfg]) hne
  · exact .inr (.inr ⟨c, hpick⟩)

end

section
/-!
SUPPORT. O59, O58: the invariant. Each change of the state keeps it where the effects of commands and of
micro-operations make that change; a proof names the fields that the change touches, the others carry over as they are.
-/

namespace Sys2Proof.Machine

/-! ### Values in their bounds -/

/-- `N` is not 0: the display has a column and a page (R6). -/
theorem frameBytes_pos {c : Config} (h : c.WellFormed) : 0 < c.frameBytes := by
  obtain ⟨_, hheight, _⟩ := h.height
  exact Nat.mul_pos h.width.1 (Nat.div_pos hheight (by decide))

/-- `CYCLE_MIN <= v <= CYCLE_MAX` (R29). -/
def CycleInBounds (c : Config) (v : Word) : Prop := c.cycleMin ≤ v.toNat ∧ v.toNat ≤ c.cycleMax

theorem cycleInBounds_ofNat {c : Config} (h : c.WellFormed) {n : Nat} (hlow : c.cycleMin ≤ n) (hhigh : n ≤ c.cycleMax) :
    CycleInBounds c (BitVec.ofNat 32 n) := by
  obtain ⟨_, _, _, hmax⟩ := h.cycleBounds
  rw [CycleInBounds, BitVec.toNat_ofNat, Nat.mod_eq_of_lt (Nat.lt_of_le_of_lt hhigh hmax)]
  exact ⟨hlow, hhigh⟩

theorem adjustCycle_inBounds {c : Config} (h : c.WellFormed) (cycle : Word) (delta : BitVec 16) (size : Nat) :
    CycleInBounds c (adjustCycle c cycle delta size) := by
  obtain ⟨_, hmin, hdefault, _⟩ := h.cycleBounds
  obtain ⟨hlow, hhigh⟩ := clamp_mem (cycle.toNat + delta.toInt * size) c.cycleMin c.cycleMax (by omega)
  exact cycleInBounds_ofNat h (by omega) (by omega)

theorem loadCycle_inBounds {s : State} (h : s.cfg.WellFormed) : CycleInBounds s.cfg s.loadCycle := by
  obtain ⟨_, hmin, hdefault, _⟩ := h.cycleBounds
  obtain ⟨_, husable, he⟩ | he := loadCycle_cases s <;> rw [he]
  · simp only [State.storedCycleUsable, Bool.and_eq_true, decide_eq_true_eq] at husable
    exact ⟨husable.1.2, husable.2⟩
  · exact cycleInBounds_ofNat h hmin hdefault

/-- The next index of a FILL or DERIVE in progress is below `n` (R34). -/
def HopBelow (n : Nat) (hop : Hop) : Prop :=
  (∀ layer v i, hop = .fill layer v i → i < n) ∧ ∀ i, hop = .derive i → i < n

theorem hopBelow_fill {n i : Nat} {layer : Layer} {v : Byte} (hi : i < n) : HopBelow n (.fill layer v i) :=
  ⟨fun _ _ _ he => by cases he; exact hi, nofun⟩

theorem hopBelow_derive {n i : Nat} (hi : i < n) : HopBelow n (.derive i) :=
  ⟨nofun, fun _ he => by cases he; exact hi⟩

theorem plan_length {s : State} (h : s.cfg.WellFormed) : 1 ≤ s.plan.length ∧ s.plan.length ≤ 3 := by
  have hlength {plan : List (BitVec 16)} (hp : planWellFormed plan = true) : 1 ≤ plan.length ∧ plan.length ≤ 3 := by
    unfold planWellFormed at hp
    split at hp
    · cases hp
    · simp only [Bool.and_eq_true, decide_eq_true_eq] at hp
      exact hp.1
  unfold State.plan
  split
  · exact hlength h.plans.1
  · exact hlength h.plans.2

/-- `STEP` advances modulo a length of at most 3 (R8, R25). -/
theorem nextStepIx_legal {s : State} (h : s.cfg.WellFormed) : s.nextStepIx ≠ 3#2 := by
  obtain ⟨hpos, hle⟩ := plan_length h
  have hlt := Nat.mod_lt (s.stepIx.toNat + 1) hpos
  intro he
  have hnat := congrArg BitVec.toNat he
  simp only [State.nextStepIx, BitVec.toNat_ofNat] at hnat
  omega

theorem clippedStep_legal {s : State} (h : s.stepIx ≠ 3#2) : s.clippedStep ≠ 3#2 := by
  unfold State.clippedStep
  split
  · decide
  · exact h

theorem bufCode_legal (buf : Buf) : bufCode buf ≠ 3#2 := by cases buf <;> decide

/-! ### Changes outside the engine -/

namespace Invariant

variable {s : State}

/-- The environment's inputs are free. -/
theorem withEnv (h : Invariant s) (e : Env) : Invariant { s with env := e } := { h with }

theorem takePick (h : Invariant s) : Invariant s.takePick := h.withEnv _

theorem takeBus (h : Invariant s) : Invariant s.takeBus := h.withEnv _

theorem acceptWord (h : Invariant s) (rest : List Word) : Invariant (s.acceptWord rest) := h.withEnv _

theorem respond (h : Invariant s) (c : Cause) (v : Word) : Invariant (s.respond c v) := { h with }

theorem withGs (h : Invariant s) (on : Bool) : Invariant { s with gs := on } := { h with }

theorem withNv (h : Invariant s) (valid : Bool) (v : Word) : Invariant (s.withNv valid v) := { h with }

theorem commitCycle (h : Invariant s) : Invariant s.commitCycle := by
  have hwritten : Invariant s.takeNvWrite := h.withEnv _
  unfold State.commitCycle
  split
  · exact (hwritten.withNv _ _).respond _ _
  · exact (hwritten.withNv _ _).respond _ _

theorem withCycle (h : Invariant s) {v : Word} (hv : CycleInBounds s.cfg v) : Invariant { s with cycle := v } :=
  { h with cycle := hv }

theorem reloadCycle (h : Invariant s) : Invariant s.reloadCycle :=
  (h.withEnv s.env.takeNvRead).withCycle (loadCycle_inBounds h.config)

/-- A byte written at an address that exists. -/
theorem store (h : Invariant s) {a : Nat} (v : Byte) (ha : a < 3 * s.cfg.frameBytes) :
    Invariant (s.withMem (s.mem.store a v)) :=
  { h with
    memory := Memory.store_wf _ _ _ h.memory
    addresses := fun c hc => by
      obtain hc | ⟨rfl, _⟩ := Memory.mem_store _ _ _ _ hc
      · exact h.addresses c hc
      · exact ha }

/-! ### The host port -/

/-- Nothing is pending while the host waits for no exit. -/
theorem stopReq_of_hop (h : Invariant s) (hhop : s.hop ≠ .stopwait) : s.stopReq = false :=
  Bool.eq_false_iff.2 fun hstop => hhop (h.stopPending hstop).2

theorem stopReq_of_run (h : Invariant s) (hrun : s.run = false) : s.stopReq = false :=
  Bool.eq_false_iff.2 fun hstop => by simp [(h.stopPending hstop).1] at hrun

/-- The port is freed when no stop is pending. -/
theorem freePort (h : Invariant s) (hstop : s.stopReq = false) : Invariant (s.withHop .none) :=
  { h with
    stopPending := fun hs => absurd (hstop.symm.trans hs) (by decide)
    stopWaiting := nofun
    noEngine := fun hcap => ⟨(h.noEngine hcap).1, rfl⟩
    hopIndex := ⟨nofun, nofun⟩ }

/-- The port is held by a FILL or a DERIVE. -/
theorem holdPort (h : Invariant s) (hcap : s.capErr = false) (hstop : s.stopReq = false) (hop : Hop)
    (hwait : hop ≠ .stopwait) (hindex : HopBelow s.cfg.frameBytes hop) : Invariant (s.withHop hop) :=
  { h with
    stopPending := fun hs => absurd (hstop.symm.trans hs) (by decide)
    stopWaiting := fun hs => absurd hs hwait
    noEngine := fun hc => absurd (hcap.symm.trans hc) (by decide)
    hopIndex := hindex }

/-- A micro-step of a command that works through a buffer, with the port at an index of it after all but the last. -/
theorem portStep (h : Invariant s) {t : State} {b i : Nat} {more : Hop} (hstep : PortStep s b i more t) (hb : b < 3)
    (hcap : s.capErr = false) (hstop : s.stopReq = false) (hwait : more ≠ .stopwait)
    (hindex : i + 1 < s.cfg.frameBytes → HopBelow s.cfg.frameBytes more) : Invariant t := by
  cases hstep with
  | goOn v hi => exact (h.store v (bufAddr_lt hb (by omega))).holdPort hcap hstop more hwait (hindex hi)
  | last v hi => exact ((h.store v (bufAddr_lt hb (by omega))).freePort hstop).respond _ _
  | past => exact (h.freePort hstop).respond _ _

theorem fillStep (h : Invariant s) {t : State} {layer : Layer} {v : Byte} {i : Nat}
    (hstep : PortStep s (layerNumber layer) i (.fill layer v (i + 1)) t) (hcap : s.capErr = false)
    (hstop : s.stopReq = false) : Invariant t :=
  h.portStep hstep (Nat.lt_succ_of_lt (layerNumber_lt layer)) hcap hstop nofun hopBelow_fill

theorem deriveStep (h : Invariant s) {t : State} {i : Nat} (hstep : PortStep s 2 i (.derive (i + 1)) t)
    (hcap : s.capErr = false) (hstop : s.stopReq = false) : Invariant t :=
  h.portStep hstep (by decide) hcap hstop nofun hopBelow_derive

theorem capErr_of_hop (h : Invariant s) (hhop : s.hop ≠ .none) : s.capErr = false :=
  Bool.eq_false_iff.2 fun hcap => hhop (h.noEngine hcap).2

/-! ### Outside a sub-frame step -/

theorem lidx_of_phase (h : Invariant s) {p : BitVec 3} (hphase : s.phase = p) (hp : p ≠ phaseLoad) : s.lidx = 0 :=
  h.loadOnly (hphase ▸ hp)

/-- At IDLE and at FETCH the invariant says nothing of the latches and the shadow, so the engine comes there from any
state with nothing gathered, whatever the multiplex ratio is. -/
theorem atIdleOrFetch (h : Invariant s) (hlidx : s.lidx = 0) {run stop : Bool} {ix : BitVec 2} {p : BitVec 3}
    (d : Option Nat) (hp : p = phaseIdle ∨ p = phaseFetch) (hidle : p = phaseIdle ↔ run = false) (hix : ix ≠ 3#2)
    (hstop : stop = true → run = true ∧ s.hop = .stopwait) (hwait : s.hop = .stopwait → run = true → stop = true)
    (hcap : s.capErr = true → run = false ∧ s.hop = .none) :
    Invariant { s with run := run, stopReq := stop, stepIx := ix, phase := p, dmux := d } := by
  have hphase : p ≠ 7#3 ∧ p ≠ phasePwait ∧ p ≠ phaseLoad ∧ p ≠ phaseUnpark ∧ p ≠ phaseXwait ∧ ¬(2 ≤ p.toNat) := by
    obtain rfl | rfl := hp <;> decide
  obtain ⟨h7, hpwait, hload, hunpark, hxwait, hinside⟩ := hphase
  exact { h with
    stepLegal := hix
    phaseLegal := h7
    idle := hidle
    latched := fun hin => absurd hin (by simp [State.insideStep, hinside])
    loadOnly := fun _ => hlidx
    stopPending := hstop
    stopWaiting := hwait
    noEngine := hcap
    parked := fun hin => absurd hin (by simp [hpwait, hload, hunpark])
    exposed := fun hin => absurd hin hxwait
    loaded := fun hin => absurd hin (by simp [hunpark, hxwait]) }

theorem launch (h : Invariant s) (hcap : s.capErr = false) (hhop : s.hop = .none) (hrun : s.run = false) :
    Invariant s.launch :=
  h.atIdleOrFetch (h.lidx_of_phase (h.idle.2 hrun) (by decide)) s.dmux (.inr rfl) (by decide) (by decide) nofun
    (fun hwait => absurd (hhop.symm.trans hwait) nofun) (fun hc => absurd (hcap.symm.trans hc) nofun)

theorem exitEngine (h : Invariant s) (hphase : s.phase = phaseFetch) : Invariant s.exitEngine :=
  h.atIdleOrFetch (h.lidx_of_phase hphase (by decide)) s.dmux (.inl rfl) (by decide) h.stepLegal nofun nofun
    (fun hcap => ⟨rfl, (h.noEngine hcap).2⟩)

/-- The end of a step, also where it lost what the display shows (R37). -/
theorem advance (h : Invariant s) (hrun : s.run = true) (hlidx : s.lidx = 0) (d : Option Nat) :
    Invariant (s.withDmux d).advance :=
  h.atIdleOrFetch hlidx d (.inr rfl) (by simp [hrun, phaseFetch, phaseIdle]) (nextStepIx_legal h.config) h.stopPending
    h.stopWaiting h.noEngine

/-- A stop requested of a running engine (R211). -/
theorem requestStop (h : Invariant s) (hcap : s.capErr = false) (hrun : s.run = true) :
    Invariant { s with stopReq := true, hop := .stopwait } :=
  { h with
    stopPending := fun _ => ⟨hrun, rfl⟩
    stopWaiting := fun _ _ => rfl
    noEngine := fun hc => absurd (hcap.symm.trans hc) nofun
    hopIndex := ⟨nofun, nofun⟩ }

/-! ### Inside a sub-frame step -/

theorem pushEvent (h : Invariant s) (e : Event) : Invariant (s.pushEvent e) := { h with }

theorem clearTx (h : Invariant s) : Invariant s.clearTx :=
  { h with loadIndex := rfl, loadBound := Nat.zero_le _, loadOnly := fun _ => rfl }

/-- The skip procedure, after the shadow of the multiplex ratio is set to what the error left of it (R237). -/
theorem skip (h : Invariant s) (hrun : s.run = true) (d : Option Nat) (p : BusPhase) :
    Invariant ((s.withDmux d).skip p) := by
  have hcounted : Invariant { s with terrCnt := saturatingSucc s.terrCnt } := { h with }
  exact (hcounted.pushEvent (.err p)).clearTx.advance hrun rfl d

/-- The frame is lost before the display is unparked (R149). -/
theorem loseFrame (h : Invariant s) (hphase : s.phase = phaseLoad) : Invariant (s.withDframe none) :=
  { h with
    loaded := fun hin => by simp [hphase, phaseLoad, phaseUnpark, phaseXwait] at hin
    frame := nofun }

theorem latch (h : Invariant s) (hrun : s.run = true) (hphase : s.phase = phaseFetch) (src : Buf) {num den : BitVec 7}
    (hfraction : fractionWellFormed num den = true) : Invariant (s.latch src num den) :=
  { h with
    stepLegal := clippedStep_legal h.stepLegal
    phaseLegal := (by decide : phasePark ≠ 7#3)
    idle := by simp [hrun, phasePark, phaseIdle]
    srcLegal := bufCode_legal src
    latched := fun _ => hfraction
    loadOnly := fun _ => h.lidx_of_phase hphase (by decide)
    parked := by simp [phasePark, phasePwait, phaseLoad, phaseUnpark]
    exposed := by simp [phasePark, phaseXwait]
    loaded := by simp [phasePark, phaseUnpark, phaseXwait] }

/-- From one phase inside a step to another, with the shadow set to what the protocol says there (R147, R149). -/
theorem toPhase (h : Invariant s) (hin : s.insideStep = true) (p : BitVec 3) (d : Option Nat) (f : Option (List Byte))
    (hp : p ≠ 7#3 ∧ p ≠ phaseIdle) (hlidx : p ≠ phaseLoad → s.lidx = 0)
    (hparked : p = phasePwait ∨ p = phaseLoad ∨ p = phaseUnpark → d = some s.cfg.parkRows)
    (hexposed : p = phaseXwait → d = some s.cfg.unparkRows)
    (hloaded : p = phaseUnpark ∨ p = phaseXwait → f.isSome = true)
    (hframe : ∀ g, f = some g → g.length = s.cfg.frameBytes) :
    Invariant (((s.withDmux d).withDframe f).withPhase p) :=
  { h with
    phaseLegal := hp.1
    idle := ⟨fun he => absurd he hp.2, fun hrun => absurd hin (by simp [State.insideStep, h.idle.2 hrun, phaseIdle])⟩
    latched := fun _ => h.latched hin
    loadOnly := hlidx
    parked := hparked
    exposed := hexposed
    loaded := hloaded
    frame := hframe }

end Invariant

/-! ### Every effect, every step -/

theorem insideStep_of_phase {s : State} {p : BitVec 3} (hphase : s.phase = p) (hp : 2 ≤ p.toNat ∧ p.toNat ≤ 6) :
    s.insideStep = true := by
  simpa [State.insideStep, hphase] using hp

theorem EngineEffect.invariant {s t : State} (h : EngineEffect s t) (hs : Invariant s) : Invariant t := by
  cases h with
  | exit _ hphase => exact hs.exitEngine hphase
  | latch src num den hrun hphase _ hfraction => exact hs.latch hrun hphase src hfraction
  | parked hrun hphase =>
    exact (hs.takeBus.pushEvent _).toPhase (insideStep_of_phase hphase (by decide)) phasePwait _ s.dframe (by decide)
      (fun _ => hs.lidx_of_phase hphase (by decide)) (fun _ => rfl) nofun nofun hs.frame
  | parkFailed hrun => exact hs.takeBus.skip hrun none .park
  | waited hrun hphase =>
    exact (hs.pushEvent _).clearTx.toPhase (insideStep_of_phase hphase (by decide)) phaseLoad s.dmux s.dframe
      (by decide) nofun (fun _ => hs.parked (.inl hphase)) nofun nofun hs.frame
  | read hrun hphase hindex =>
    exact { hs with
      loadIndex := by simp [readEffect, State.pushTx, hs.loadIndex]
      loadBound := hindex
      loadOnly := fun hp => absurd hphase hp }
  | sent hrun hphase hindex =>
    have hfull : s.tx.length = s.cfg.frameBytes := hs.loadIndex.symm.trans (Nat.le_antisymm hs.loadBound hindex)
    exact (hs.takeBus.pushEvent _).clearTx.toPhase (insideStep_of_phase hphase (by decide)) phaseUnpark s.dmux
      (some s.tx) (by decide) (fun _ => rfl) (fun _ => hs.parked (.inr (.inl hphase))) nofun (fun _ => rfl)
      (fun _ he => by cases he; exact hfull)
  | sendFailed hrun hphase =>
    exact (hs.takeBus.loseFrame hphase).clearTx.skip hrun s.dmux .load
  | unparked hrun hphase =>
    exact (hs.takeBus.pushEvent _).toPhase (insideStep_of_phase hphase (by decide)) phaseXwait _ s.dframe (by decide)
      (fun _ => hs.lidx_of_phase hphase (by decide)) nofun (fun _ => rfl) (fun _ => hs.loaded (.inl hphase)) hs.frame
  | unparkFailed hrun => exact hs.takeBus.skip hrun none .unpark
  | exposed hrun hphase => exact (hs.pushEvent _).advance hrun (hs.lidx_of_phase hphase (by decide)) s.dmux
  | hung => exact hs

/-- A command accepted on a free port. -/
theorem CommandEffect.invariant {s t : State} {i : Instr} (h : CommandEffect s i t) (hs : Invariant s)
    (hhop : s.hop = .none) : Invariant t := by
  have hstop : s.stopReq = false := hs.stopReq_of_hop (by simp [hhop])
  have hfirst := frameBytes_pos hs.config
  cases h with
  | answer => exact hs.respond _ _
  | launch hcap hrun => exact (hs.launch hcap hhop hrun).respond _ _
  | requestStop hcap hrun => exact hs.requestStop hcap hrun
  | toggle _ on => exact (hs.withGs on).respond _ _
  | adjust _ delta size => exact (hs.withCycle (adjustCycle_inBounds hs.config s.cycle delta size)).respond _ _
  | commit => exact hs.commitCycle
  | reload => exact hs.reloadCycle.respond _ _
  | store _ layer k v haddr => exact (hs.store v haddr).respond _ _
  | fill layer bit hcap hstep =>
    have haccepted := hs.holdPort hcap hstop (.fill layer (fillByte bit) 0) nofun (hopBelow_fill hfirst)
    exact haccepted.fillStep hstep hcap hstop
  | derive hcap hstep =>
    have haccepted := hs.holdPort hcap hstop (.derive 0) nofun (hopBelow_derive hfirst)
    exact haccepted.deriveStep hstep hcap hstop

theorem HostStep.invariant {s t : State} (h : HostStep s t) (hs : Invariant s) : Invariant t := by
  cases h with
  | idle => exact hs.takePick
  | command i rest hhop _ heffect => exact heffect.invariant (hs.takePick.acceptWord rest) hhop
  | illegal rest => exact (hs.takePick.acceptWord rest).respond _ _
  | fill layer v i hhop hstep =>
    exact hs.takePick.fillStep hstep (hs.capErr_of_hop (by simp [hhop])) (hs.stopReq_of_hop (by simp [hhop]))
  | derive i hhop hstep =>
    exact hs.takePick.deriveStep hstep (hs.capErr_of_hop (by simp [hhop])) (hs.stopReq_of_hop (by simp [hhop]))
  | join _ hrun => exact (hs.takePick.freePort (hs.stopReq_of_run hrun)).respond _ _
  | wait => exact hs.takePick

theorem dropHungCall_cfg (s : State) : s.dropHungCall.cfg = s.cfg := by
  unfold State.dropHungCall
  split <;> rfl

/-- The reset makes the invariant from any state of a well-formed configuration (R270, R271). -/
theorem resetSequence_invariant {s : State} (h : s.cfg.WellFormed) (parCap : Bool) :
    Invariant (resetSequence parCap s) := by
  rw [← dropHungCall_cfg] at h
  exact {
    config := h
    memory := ⟨.nil, nofun⟩
    addresses := nofun
    stepLegal := (by decide : 0#2 ≠ 3#2)
    phaseLegal := (by decide : phaseIdle ≠ 7#3)
    idle := iff_of_true rfl rfl
    srcLegal := (by decide : 0#2 ≠ 3#2)
    latched := nofun
    loadIndex := rfl
    loadBound := Nat.zero_le _
    loadOnly := fun _ => rfl
    cycle := loadCycle_inBounds h
    stopPending := nofun
    stopWaiting := nofun
    noEngine := fun _ => ⟨rfl, rfl⟩
    hopIndex := ⟨nofun, nofun⟩
    parked := nofun
    exposed := nofun
    loaded := nofun
    frame := nofun }

theorem step_invariant {s t : State} (hs : Invariant s) (h : step s = .next t) : Invariant t := by
  obtain ⟨_, hhost⟩ | ⟨_, hengine⟩ | ⟨c, _, rfl⟩ := step_next h
  · exact hhost.invariant hs
  · exact hengine.keeps (fun _ _ hu heffect => heffect.invariant hu) hs.takePick
  · exact resetSequence_invariant hs.takePick.config c

theorem configDefault_wellFormed : Config.default.WellFormed := by constructor <;> decide

end Sys2Proof.Machine

open Sys2Proof.Machine

/-- Settles O59: whoever moves, the step is one of the effects above, or a run of them, and each keeps the invariant. -/
theorem everyStepKeepsTheInvariant : Obligations.EveryStepKeepsTheInvariant := fun _ _ => step_invariant

/-- Settles O58: the state after reset is what the reset sequence makes of it, but for the environment. -/
theorem invariantAtReset : Obligations.InvariantAtReset := by
  have hreset := (resetSequence_invariant (s := State.reset) configDefault_wellFormed true).withEnv State.reset.env
  rwa [resetSequence_eq_reset State.reset rfl rfl rfl rfl] at hreset

end

section
/-!
SUPPORT. O39: where the engine stops and where it has no step. Every micro-operation, and SHOW, is `microOp` of its
phase.
-/

namespace Sys2Proof.Machine

variable {s : State}

/-- An enabled micro-operation with a reserved register value faults (U12 b). -/
theorem microOp_reserved (effect : Result) (hrun : s.run = true) (hreg : s.stepIx = 3#2 ∨ s.curSrc = 3#2) :
    microOp s.phase s effect = .fault .reservedState := by
  have hreserved : s.reservedRegs = true := by simpa [State.reservedRegs] using hreg
  simp [microOp, hrun, hreserved]

theorem reservedRegs_eq_false (hstep : s.stepIx ≠ 3#2) (hsrc : s.curSrc ≠ 3#2) : s.reservedRegs = false := by
  simp [State.reservedRegs, hstep, hsrc]

/-- The instructions of the engine: each is enabled at one phase and nowhere else (R141 to R144, R160 to R163). -/
theorem exec_eq_microOp {p : BitVec 3} {i : Instr}
    (h : decodePhase p = .ok i ∨ (p = 1#3 ∧ ∃ src num den, i = .showEntry src num den)) (s : State) :
    ∃ effect, exec i s = microOp p s effect := by
  obtain hdecode | ⟨rfl, _, _, _, rfl⟩ := h
  · obtain ⟨rfl, rfl⟩ | ⟨rfl, rfl⟩ | ⟨rfl, rfl⟩ | ⟨rfl, rfl⟩ | ⟨rfl, rfl⟩ | ⟨rfl, rfl⟩ := decodePhase_cases hdecode <;>
      exact ⟨_, rfl⟩
  · exact ⟨_, rfl⟩

/-- What an enabled instruction of the engine with legal registers answers. -/
theorem microOp_at {p : BitVec 3} {effect answer : Result} (hrun : s.run = true) (hphase : s.phase = p)
    (hreg : s.reservedRegs = false) (heffect : effect = answer) : microOp p s effect = answer := by
  rw [← hphase, microOp_enabled s effect hrun hreg, heffect]

end Sys2Proof.Machine

open Sys2Proof.Machine

/-- Settles O39: the disabled and the reserved cases hold of `microOp`, the others are branches of the effects in it. -/
theorem engineStopsAndDisabledSteps : Obligations.EngineStopsAndDisabledSteps := by
  refine ⟨fun p i s hi => ?_, fun s hpick hrun hphase => step_engine_reserved hpick hrun hphase,
    fun s hrun hstep hsrc => ?_⟩
  · obtain ⟨effect, he⟩ := exec_eq_microOp hi s
    rw [he]
    refine ⟨fun hdisabled => microOp_disabled p s effect hdisabled, fun hrun hphase hreg => ?_⟩
    rw [← hphase]
    exact microOp_reserved effect hrun hreg
  · have hreg := reservedRegs_eq_false hstep hsrc
    refine ⟨fun hphase hindex => ?_, fun hphase hden => ?_, fun hphase hstop hentry => ?_,
      fun hphase src num den hfraction => ?_⟩
    · exact microOp_at hrun hphase hreg (if_pos hindex)
    · exact microOp_at hrun hphase hreg (if_pos hden)
    · exact microOp_at hrun hphase hreg (by rw [hstop, hentry]; rfl)
    · exact microOp_at hrun hphase hreg (by rw [hfraction]; rfl)

end

section
/-!
SUPPORT. O21, O23: one micro-step of FILL and of DERIVE, in the terms of the statements.
-/

namespace Sys2Proof.Machine

theorem finishAt_cfg (s : State) (i : Nat) (more : Hop) : (s.finishAt i more).cfg = s.cfg := by
  obtain ⟨_, he⟩ | ⟨_, he⟩ := finishAt_cases s i more <;> rw [he] <;> rfl

theorem finishAt_mem (s : State) (i : Nat) (more : Hop) : (s.finishAt i more).mem = s.mem := by
  obtain ⟨_, he⟩ | ⟨_, he⟩ := finishAt_cases s i more <;> rw [he] <;> rfl

/-- A micro-step that writes byte `i` at address `a`: what is read after it, and what else it changes. -/
theorem finishAt_store {s t : State} {a i : Nat} {v : Byte} {more : Hop}
    (ht : t = (s.withMem (s.mem.store a v)).finishAt i more) (ha : a < 3 * s.cfg.frameBytes) (hwf : s.mem.wf) :
    t.memRead a = some v ∧ (∀ b, b ≠ a → t.memRead b = s.memRead b) ∧
      (i + 1 < s.cfg.frameBytes → { t with mem := s.mem } = { s with hop := more }) ∧
      (i + 1 = s.cfg.frameBytes →
        { t with mem := s.mem } = { s with hop := .none, resp := s.resp ++ [⟨0#8, 0#32⟩] }) := by
  have hcfg : t.cfg = s.cfg := ht ▸ finishAt_cfg _ _ _
  have hmem : t.mem = s.mem.store a v := ht ▸ finishAt_mem _ _ _
  refine ⟨?_, fun b hb => ?_, fun hi => ?_, fun hi => ?_⟩
  · rw [memRead_of_lt (hcfg ▸ ha), hmem, Memory.byteAt_store_same _ _ _ hwf.1]
  · simp only [State.memRead, hcfg, hmem, Memory.byteAt_store_other _ _ _ _ hb]
  · rw [ht, State.finishAt, if_pos (by exact hi)]
    rfl
  · rw [ht, State.finishAt, if_neg (by exact Nat.not_lt.2 hi.ge)]
    rfl

theorem exec_fill_accept {s : State} (layer : Layer) (bit : Bool) (hcap : s.capErr = false)
    (hpos : 0 < s.cfg.frameBytes) :
    exec (.fill layer bit) s =
      .next ((s.withMem (s.mem.store (bufAddr s.cfg (layerNumber layer) 0) (fillByte bit))).finishAt 0
        (.fill layer (fillByte bit) 1)) :=
  (capGuard_of_capable s _ hcap).trans
    (fillMicroStep_of_lt (s := s.withHop (.fill layer (fillByte bit) 0)) layer (fillByte bit) hpos)

theorem exec_derive_accept {s : State} (hcap : s.capErr = false) (hpos : 0 < s.cfg.frameBytes) :
    exec .derive s =
      .next ((s.withMem (s.mem.store (bufAddr s.cfg 2 0) (s.bufByte .a 0 &&& s.bufByte .b 0))).finishAt 0
        (.derive 1)) :=
  (capGuard_of_capable s _ hcap).trans (deriveMicroStep_of_lt (s := s.withHop (.derive 0)) hpos)

end Sys2Proof.Machine

open Sys2Proof.Machine

/-- Settles O21: both the accepting and a later micro-step write one byte and end with `finishAt`. -/
theorem fillWritesOneByteAMicroStep : Obligations.FillWritesOneByteAMicroStep := by
  have haddr (c : Sys2Proof.Config) (layer : Sys2Proof.Layer) {i : Nat} (hi : i < c.frameBytes) :=
    bufAddr_lt (Nat.lt_succ_of_lt (layerNumber_lt layer)) hi
  refine ⟨fun s layer bit hcap hpos hwf => ?_, fun s layer v i hpick hhop hi hwf => ?_⟩
  · obtain ⟨hsame, hother, hmore, hlast⟩ := finishAt_store rfl (haddr s.cfg layer hpos) hwf
    exact ⟨_, exec_fill_accept layer bit hcap hpos, hsame, hother, hmore, fun hone => hlast hone.symm⟩
  · exact ⟨_, (step_host_fill hpick hhop).trans (fillMicroStep_of_lt layer v hi),
      finishAt_store (s := s.takePick) rfl (haddr s.cfg layer hi) hwf⟩

/-- Settles O23: both the accepting and a later micro-step write one byte of Combined and end with `finishAt`. -/
theorem deriveComputesOneByteAMicroStep : Obligations.DeriveComputesOneByteAMicroStep := by
  have haddr (c : Sys2Proof.Config) {i : Nat} (hi : i < c.frameBytes) := bufAddr_lt (show 2 < 3 by decide) hi
  refine ⟨fun s hcap hpos hwf => ?_, fun s i hpick hhop hi hwf => ?_⟩
  · obtain ⟨hsame, hother, hmore, hlast⟩ := finishAt_store rfl (haddr s.cfg hpos) hwf
    exact ⟨_, exec_derive_accept hcap hpos, hsame, hother, hmore, fun hone => hlast hone.symm⟩
  · exact ⟨_, (step_host_derive hpick hhop).trans (deriveMicroStep_of_lt hi),
      finishAt_store (s := s.takePick) rfl (haddr s.cfg hi) hwf⟩

end

section
/-!
SUPPORT. O11, O38: the layout of STATUS, bit by bit, and the saturating count of transport errors.
-/

namespace Sys2Proof.Machine

/-- The layout of STATUS (R38): five flags, then STEP, PHASE and CUR_SRC. -/
theorem status_getLsbD (s : State) (i : Nat) : s.status.getLsbD i =
    match i with
    | 0 => s.run
    | 1 => s.gs
    | 2 => s.stopReq
    | 3 => s.capErr
    | 4 => s.terr
    | k + 5 =>
      if k < 2 then s.stepIx.getLsbD k
      else if k - 2 < 3 then s.phase.getLsbD (k - 2)
      else if k - 5 < 2 then s.curSrc.getLsbD (k - 5)
      else false := by
  change BitVec.getLsbD (w := 20 + 2 + 3 + 2 + 1 + 1 + 1 + 1 + 1) (0#20 ++ s.curSrc ++ s.phase ++ s.stepIx ++
    BitVec.ofBool s.terr ++ BitVec.ofBool s.capErr ++ BitVec.ofBool s.stopReq ++ BitVec.ofBool s.gs ++
    BitVec.ofBool s.run) i = _
  simp only [BitVec.getLsbD_append]
  match i with
  | 0 => simp
  | 1 => simp
  | 2 => simp
  | 3 => simp
  | 4 => simp
  | k + 5 => simp [Nat.sub_sub]

/-- The fields above the flags, and the zeros above the fields (R38). -/
theorem status_fields (s : State) : s.status.extractLsb' 5 2 = s.stepIx ∧ s.status.extractLsb' 7 3 = s.phase ∧
    s.status.extractLsb' 10 2 = s.curSrc ∧ s.status.extractLsb' 12 20 = 0#20 := by
  refine ⟨BitVec.eq_of_getLsbD_eq fun k hk => ?_, BitVec.eq_of_getLsbD_eq fun k hk => ?_,
    BitVec.eq_of_getLsbD_eq fun k hk => ?_, BitVec.eq_of_getLsbD_eq fun k hk => ?_⟩ <;>
    simp only [BitVec.getLsbD_extractLsb', hk, decide_true, Bool.true_and]
  · simp only [Nat.add_comm 5 k, status_getLsbD, if_pos hk]
  · have hbit : 7 + k = k + 2 + 5 := by omega
    simp [hbit, status_getLsbD, hk]
  · have hbit : 10 + k = k + 5 + 5 := by omega
    simp [hbit, status_getLsbD, hk]
  · have hbit : 12 + k = k + 7 + 5 := by omega
    simp [hbit, status_getLsbD]

theorem terr_iff (s : State) : s.terr = true ↔ s.terrCnt ≠ 0#32 := by simp [State.terr]

theorem saturatingSucc_toNat (n : Word) : (saturatingSucc n).toNat = min (n.toNat + 1) (2 ^ 32 - 1) := by
  unfold saturatingSucc
  split
  · next hmax => simp [hmax]
  · next hmax =>
    have hne : n.toNat ≠ 4294967295 := fun h => hmax (BitVec.eq_of_toNat_eq h)
    have hlt := n.isLt
    rw [BitVec.toNat_add_of_lt (by simp; omega)]
    simp; omega

end Sys2Proof.Machine

open Sys2Proof.Machine

/-- Settles O38: the skip procedure counts with `saturatingSucc` and leaves RUN. -/
theorem transportErrorCountSaturates : Obligations.TransportErrorCountSaturates := fun s _ =>
  ⟨saturatingSucc_toNat s.terrCnt, rfl, rfl, by simp [State.returnsToFetch]⟩

/-- Settles O11: the flags and fields by the layout, and the layout at the values a reset gives. -/
theorem statusFields : Obligations.StatusFields := by
  have hreset (s : State) : (resetSequence false s).status = { State.reset with capErr := true }.status := rfl
  refine ⟨fun s => ?_, rfl, hreset⟩
  exact ⟨status_getLsbD s 0, status_getLsbD s 1, status_getLsbD s 2, status_getLsbD s 3,
    (status_getLsbD s 4) ▸ terr_iff s, status_fields s⟩

end

section
/-!
SUPPORT. O19, O29: reads of the buffer memory after a write, and the instructions that write none.
-/

namespace Sys2Proof.Machine

variable {s t : State}

/-! ### What the engine's instructions keep -/

theorem EngineStep.engineKeeps (h : EngineStep s t) : EngineKeeps s t :=
  h.keeps (P := EngineKeeps s) (fun _ _ hs heffect => hs.trans heffect.engineKeeps) (.of_silent rfl rfl)

/-- An instruction run by its phase keeps the engine's frame, as a step of the engine does. -/
theorem exec_phase_engineKeeps {p : BitVec 3} {i : Instr} (hdecode : decodePhase p = .ok i)
    (h : exec i s = .next t) : EngineKeeps s t := by
  obtain rfl | heffect := exec_phase_next hdecode h
  · exact .of_silent rfl rfl
  · exact heffect.engineKeeps

/-! ### What the commands keep -/

/-- The prelude of R239 adds no change of the buffers: a refusal writes none. -/
theorem capGuard_keeps_mem {effect : Result} (h : capGuard s effect = .next t)
    (heffect : effect = .next t → t.mem = s.mem) : t.mem = s.mem := by
  obtain ⟨_, he⟩ | ⟨_, he⟩ := capGuard_cases s effect
  · rw [he] at h
    cases h
    rfl
  · exact heffect (he ▸ h)

/-- A command whose answer, past the prelude, is one state with the buffers as they were. -/
theorem capGuard_next_mem {u : State} (h : capGuard s (.next u) = .next t) (hu : u.mem = s.mem) : t.mem = s.mem :=
  capGuard_keeps_mem h fun he => by cases he; exact hu

theorem execRdbyte_mem {buf : Buf} {index : BitVec 14} (h : execRdbyte buf index s = .next t) : t.mem = s.mem := by
  refine capGuard_keeps_mem h fun he => ?_
  split at he
  · cases he
    rfl
  · obtain ⟨_, _, he⟩ := (orNoSuchAddress_next _ _ _).1 he
    cases he
    rfl

/-- Of the commands only SETPX, FILL, DERIVE and WRBYTE write the buffers (R68). -/
theorem exec_command_mem {i : Instr} (hi : hostCommand i = true) (h : exec i s = .next t)
    (hsetpx : ∀ layer x y bit, i ≠ .setpx layer x y bit) (hfill : ∀ layer bit, i ≠ .fill layer bit)
    (hderive : i ≠ .derive) (hwrbyte : ∀ buf index value, i ≠ .wrbyte buf index value) : t.mem = s.mem := by
  cases i with
  | start => exact capGuard_next_mem h (by cases s.run <;> rfl)
  | stop => exact capGuard_next_mem h (by cases s.run <;> rfl)
  | gson => exact capGuard_next_mem h rfl
  | gsoff => exact capGuard_next_mem h rfl
  | rdcsr csr => cases h; rfl
  | getcyc => exact capGuard_next_mem h rfl
  | adjc delta => exact capGuard_next_mem h rfl
  | adjf delta => exact capGuard_next_mem h rfl
  | commit =>
    refine capGuard_next_mem h ?_
    split
    · rfl
    · exact commitCycle_mem s
  | reload => exact capGuard_next_mem h (by cases s.run <;> rfl)
  | setpx layer x y bit => exact absurd rfl (hsetpx layer x y bit)
  | fill layer bit => exact absurd rfl (hfill layer bit)
  | derive => exact absurd rfl hderive
  | resolve bitA bitB => exact capGuard_next_mem h rfl
  | wrbyte buf index value => exact absurd rfl (hwrbyte buf index value)
  | rdbyte buf index => exact execRdbyte_mem h
  | _ => cases hi

/-- An instruction that is no host command is one of the engine's: a micro-operation, or a whole SHOW (R109, R110). -/
theorem exec_engine_engineKeeps {i : Instr} (hi : hostCommand i = false) (h : exec i s = .next t) :
    EngineKeeps s t := by
  cases i with
  | showEntry src num den => exact (execShowEntry_next h).engineKeeps
  | fetch => exact exec_phase_engineKeeps (p := phaseFetch) rfl h
  | park => exact exec_phase_engineKeeps (p := phasePark) rfl h
  | pwait => exact exec_phase_engineKeeps (p := phasePwait) rfl h
  | load => exact exec_phase_engineKeeps (p := phaseLoad) rfl h
  | unpark => exact exec_phase_engineKeeps (p := phaseUnpark) rfl h
  | xwait => exact exec_phase_engineKeeps (p := phaseXwait) rfl h
  | _ => cases hi

end Sys2Proof.Machine

open Sys2Proof.Machine

/-- Settles O19: the laws of `Memory.store`, read through the state. -/
theorem readAfterWrite : Obligations.ReadAfterWrite := by
  intro s t a v hwf hwrite
  obtain ⟨haddr, rfl⟩ := (State.memWrite_eq_some _ _ _ _).1 hwrite
  refine ⟨?_, fun b hb => ?_, Memory.store_wf _ _ _ hwf, rfl⟩
  · rw [memRead_of_lt (by exact haddr)]
    exact congrArg some (Memory.byteAt_store_same _ _ _ hwf.1)
  · simp only [State.memRead, State.withMem_cfg, State.withMem_mem, Memory.byteAt_store_other _ _ _ _ hb]

/-- Settles O29: the engine's instructions by their frame, the commands by their memory and configuration. -/
theorem nonStoringCommandsKeepEveryByte : Obligations.NonStoringCommandsKeepEveryByte := by
  intro i s t h hsetpx hfill hderive hwrbyte a
  cases hi : hostCommand i with
  | true =>
    have hmem := exec_command_mem hi h hsetpx hfill hderive hwrbyte
    have hcfg := (exec_command_next hi h).cfg
    simp only [State.memRead, hmem, hcfg]
  | false => exact (exec_engine_engineKeeps hi h).memRead a

end

section
/-!
SUPPORT. O53: the host's frame. Every micro-step of the host leaves what is outside its reach, and the engine's position
but for START.
-/

namespace Sys2Proof.Machine

/-- The state without what the host's micro-steps may write, without the engine's position and without the draws and
picks that the host uses up: the configuration, the strap's error flag, the engine's latches, the bus, TRACE, the shadow
and the error count are left in view. -/
def State.outsideHost (s : State) : State :=
  { s with
    env := { s.env with
      picks := [], words := [], nvReads := [], nvWrites := [], pickDraws := 0, nvReadDraws := 0, nvWriteDraws := 0 }
    run := false
    gs := false
    stopReq := false
    stepIx := 0#2
    phase := phaseIdle
    cycle := 0#32
    mem := []
    hop := .none
    nvValid := false
    nvCycle := 0#32
    resp := [] }

/-- Where the engine stands: `RUN`, `PHASE`, `STEP` (R43, R70). -/
def State.position (s : State) : Bool × BitVec 3 × BitVec 2 := (s.run, s.phase, s.stepIx)

variable {s t : State}

theorem State.outsideHost_takePick (s : State) : s.takePick.outsideHost = s.outsideHost := by
  cases h : s.env.picks <;> simp [State.outsideHost, State.takePick, Env.takePick, h]

theorem State.outsideHost_takeNvRead (s : State) : s.takeNvRead.outsideHost = s.outsideHost := by
  cases h : s.env.nvReads <;> simp [State.outsideHost, State.takeNvRead, Env.takeNvRead, h]

theorem State.outsideHost_takeNvWrite (s : State) : s.takeNvWrite.outsideHost = s.outsideHost := by
  cases h : s.env.nvWrites <;> simp [State.outsideHost, State.takeNvWrite, Env.takeNvWrite, h]

theorem commitCycle_outsideHost (s : State) : s.commitCycle.outsideHost = s.outsideHost := by
  unfold State.commitCycle
  split <;> exact s.outsideHost_takeNvWrite

theorem commitCycle_position (s : State) : s.commitCycle.position = s.position := by
  unfold State.commitCycle
  split <;> rfl

theorem PortStep.outsideHost {b i : Nat} {more : Hop} (h : PortStep s b i more t) : t.outsideHost = s.outsideHost := by
  cases h <;> rfl

theorem PortStep.position {b i : Nat} {more : Hop} (h : PortStep s b i more t) : t.position = s.position := by
  cases h <;> rfl

theorem CommandEffect.outsideHost {i : Instr} (h : CommandEffect s i t) : t.outsideHost = s.outsideHost := by
  cases h with
  | commit => exact commitCycle_outsideHost s
  | reload => exact s.outsideHost_takeNvRead
  | fill layer bit _ hstep => exact hstep.outsideHost
  | derive _ hstep => exact hstep.outsideHost
  | _ => rfl

/-- Of the commands only START moves the engine (R210). -/
theorem CommandEffect.position {i : Instr} (h : CommandEffect s i t) : t.position = s.position ∨ i = .start := by
  cases h with
  | launch => exact .inr rfl
  | commit => exact .inl (commitCycle_position s)
  | fill layer bit _ hstep => exact .inl hstep.position
  | derive _ hstep => exact .inl hstep.position
  | _ => exact .inl rfl

theorem HostStep.outsideHost (h : HostStep s t) : t.outsideHost = s.outsideHost := by
  refine Eq.trans ?_ s.outsideHost_takePick
  cases h with
  | command i rest _ _ heffect => exact heffect.outsideHost
  | fill layer v i _ hstep => exact hstep.outsideHost
  | derive i _ hstep => exact hstep.outsideHost
  | _ => rfl

theorem HostStep.position (h : HostStep s t) : t.position = s.position ∨ ∃ u, nextMove s = .run .start u := by
  cases h with
  | command i rest _ hmove heffect =>
    obtain hsame | rfl := heffect.position
    · exact .inl hsame
    · exact .inr ⟨_, hmove⟩
  | fill layer v i _ hstep => exact .inl hstep.position
  | derive i _ hstep => exact .inl hstep.position
  | _ => exact .inl rfl

end Sys2Proof.Machine

open Sys2Proof.Machine

/-- Settles O53: what is outside the host's reach stays, and the position moves only with START. -/
theorem hostFrame : Obligations.HostFrame := by
  intro s t hpick hstep
  have hhost := step_host hpick hstep
  have hout := hhost.outsideHost
  simp only [State.outsideHost, State.mk.injEq, Env.mk.injEq] at hout
  have hstart : ¬(t.run = s.run ∧ t.phase = s.phase ∧ t.stepIx = s.stepIx) → ∃ u, nextMove s = .run .start u :=
    fun hmoved => hhost.position.resolve_left (by simpa [State.position] using hmoved)
  simp only [hout, true_and]
  exact hstart

end

section
/-!
SUPPORT. O25: a DERIVE in progress. Its own micro-steps extend the derived part of Combined by one byte; no other step
of the host starts one, and the engine moves neither the port nor a byte.
-/

namespace Sys2Proof.Machine

variable {s t : State}

/-! ### One byte derived -/

theorem bufByte_store_same (hwf : s.mem.wf) (buf : Buf) (i : Nat) (v : Byte) :
    (s.withMem (s.mem.store (bufAddr s.cfg (bufNumber buf) i) v)).bufByte buf i = v :=
  Memory.byteAt_store_same _ _ _ hwf.1

theorem bufByte_store_other {a : Nat} {buf : Buf} {k : Nat} (v : Byte) (h : bufAddr s.cfg (bufNumber buf) k ≠ a) :
    (s.withMem (s.mem.store a v)).bufByte buf k = s.bufByte buf k :=
  Memory.byteAt_store_other _ _ _ _ h

/-- With the bytes below `i` derived, those below `i + 1` are (R66, R122): the write leaves the layers and the bytes of
Combined before it. -/
theorem freshBelow_store {i : Nat} (hwf : s.mem.wf) (hi : i < s.cfg.frameBytes) (hfresh : s.freshBelow i) :
    (s.withMem (s.mem.store (bufAddr s.cfg 2 i) (s.bufByte .a i &&& s.bufByte .b i))).freshBelow (i + 1) := by
  intro k hk
  have hbelow : k < s.cfg.frameBytes := by omega
  rw [bufByte_store_other (buf := .a) _ (bufAddr_layer_ne_combined .a i hbelow),
    bufByte_store_other (buf := .b) _ (bufAddr_layer_ne_combined .b i hbelow)]
  obtain hlt | rfl := Nat.lt_succ_iff_lt_or_eq.1 hk
  · rw [bufByte_store_other (buf := .c) _ (by simp only [bufAddr, bufNumber]; omega)]
    exact hfresh k hlt
  · exact bufByte_store_same hwf .c k _

/-! ### What the micro-steps of DERIVE keep -/

/-- What O25 asks after a step made while a DERIVE is in progress: `C = A & B` below the next index, and for the whole
buffer when the port is free. -/
def DerivedSoFar (t : State) : Prop := t.deriveProgress ∧ (t.hop = .none → t.fresh)

theorem finishAt_derivedSoFar {i : Nat} (hfresh : s.freshBelow (i + 1)) :
    DerivedSoFar (s.finishAt i (.derive (i + 1))) := by
  obtain ⟨_, he⟩ | ⟨hlast, he⟩ := finishAt_cases s i (.derive (i + 1)) <;> rw [he]
  · exact ⟨fun j hj => by cases hj; exact hfresh, nofun⟩
  · exact ⟨nofun, fun _ k hk => hfresh k (by exact Nat.lt_of_lt_of_le hk hlast)⟩

theorem deriveMicroStep_derivedSoFar {i : Nat} (hwf : s.mem.wf) (hi : i < s.cfg.frameBytes) (hfresh : s.freshBelow i)
    (h : deriveMicroStep i s = .next t) : DerivedSoFar t := by
  rw [deriveMicroStep_of_lt hi] at h
  cases h
  exact finishAt_derivedSoFar (s := s.withMem _) (freshBelow_store hwf hi hfresh)

/-- A DERIVE accepted: refused with nothing in progress, or byte 0 derived (R122). -/
theorem exec_derive_deriveProgress (hs : Invariant s) (hhop : s.hop = .none) (h : exec .derive s = .next t) :
    t.deriveProgress := by
  obtain ⟨_, he⟩ | ⟨_, he⟩ := capGuard_cases s (deriveMicroStep 0 (s.withHop (.derive 0)))
  · obtain rfl : s.respond .capErr 0#32 = t := by simpa [exec, execDerive, he] using h
    simp [State.deriveProgress, hhop]
  · exact (deriveMicroStep_derivedSoFar (s := s.withHop (.derive 0)) hs.memory (frameBytes_pos hs.config) nofun
      (he ▸ h)).1

/-! ### The other steps of the host -/

/-- Only DERIVE leaves the port held by a DERIVE. -/
theorem CommandEffect.hop_ne_derive {i : Instr} (h : CommandEffect s i t) (hi : i ≠ .derive) (hhop : s.hop = .none)
    (j : Nat) : t.hop ≠ .derive j := by
  cases h with
  | requestStop => exact nofun
  | commit => rw [(commitCycle_responds s).1, hhop]; exact nofun
  | fill layer bit _ hstep => cases hstep <;> exact nofun
  | derive => exact absurd rfl hi
  | _ => exact fun hj => by cases hhop.symm.trans hj

/-- From a port not held by a DERIVE, a step of the host accepts one or leaves none in progress. -/
theorem HostStep.derive_accepted_or_hop_ne (h : HostStep s t) (hhop : ∀ j, s.hop ≠ .derive j) :
    (s.hop = .none ∧ ∃ rest, nextMove s = .run .derive (s.takePick.acceptWord rest)) ∨ ∀ j, t.hop ≠ .derive j := by
  cases h with
  | command i rest hfree hmove heffect =>
    by_cases hi : i = .derive
    · exact .inl ⟨hfree, rest, hi ▸ hmove⟩
    · exact .inr (heffect.hop_ne_derive hi hfree)
  | fill layer v i _ hstep => exact .inr fun j => by cases hstep <;> exact nofun
  | derive i hheld => exact absurd hheld (hhop i)
  | join => exact .inr nofun
  | _ => exact .inr hhop

/-- The host's steps: a micro-step of DERIVE, its accepting one, or one that leaves none in progress. -/
theorem step_host_deriveProgress (hs : Invariant s) (hprogress : s.deriveProgress) (hpick : s.nextPick = .host)
    (h : step s = .next t) : t.deriveProgress ∧ (∀ i, s.hop = .derive i → t.hop = .none → t.fresh) := by
  by_cases hheld : ∃ i, s.hop = .derive i
  · obtain ⟨i, hhop⟩ := hheld
    rw [step_host_derive hpick hhop] at h
    obtain ⟨hkept, hdone⟩ := deriveMicroStep_derivedSoFar (s := s.takePick) hs.memory (hs.hopIndex.2 i hhop)
      (hprogress i hhop) h
    exact ⟨hkept, fun _ _ => hdone⟩
  · have hnone : ∀ i, s.hop ≠ .derive i := not_exists.1 hheld
    refine ⟨?_, fun i hi => absurd hi (hnone i)⟩
    obtain ⟨hfree, rest, hmove⟩ | hother := (step_host hpick h).derive_accepted_or_hop_ne hnone
    · exact exec_derive_deriveProgress (hs.takePick.acceptWord rest) hfree (step_of_run hmove ▸ h)
    · exact fun j hj => absurd hj (hother j)

/-! ### The engine -/

theorem EngineKeeps.hop (h : EngineKeeps s t) : t.hop = s.hop := (congrArg State.hop h.outside :)

theorem EngineKeeps.bufByte (h : EngineKeeps s t) (buf : Buf) (k : Nat) : t.bufByte buf k = s.bufByte buf k := by
  simp only [State.bufByte, h.mem, h.cfg]

theorem EngineKeeps.deriveProgress (h : EngineKeeps s t) (hprogress : s.deriveProgress) : t.deriveProgress := by
  intro i hi k hk
  simp only [h.bufByte]
  exact hprogress i (h.hop ▸ hi) k hk

end Sys2Proof.Machine

open Sys2Proof.Machine

/-- Settles O25: by the agent that moves. The host extends the derived part, the engine keeps port and buffers, a reset
frees the port. -/
theorem deriveSurvivesInterleaving : Obligations.DeriveSurvivesInterleaving := by
  intro s t hs hprogress hstep
  obtain ⟨hpick, _⟩ | ⟨hpick, _⟩ | ⟨c, hpick, rfl⟩ := step_next hstep
  · obtain ⟨hkept, hdone⟩ := step_host_deriveProgress hs hprogress hpick hstep
    exact ⟨hkept, fun i hi hfree _ => hdone i hi hfree⟩
  · have hkeeps := step_engineKeeps hpick hstep
    refine ⟨hkeeps.deriveProgress hprogress, fun i hi hfree _ => ?_⟩
    rw [hkeeps.hop, hi] at hfree
    cases hfree
  · exact ⟨nofun, fun _ _ _ hreset => absurd hpick (hreset c)⟩

end

section
/-!
SUPPORT. O40: a SHOW whose three bus calls are answered, one lemma for each micro-operation of it, and a SHOW that finds
a stop pending.
-/

namespace Sys2Proof.Machine

variable {s : State}

/-! ### Micro-operations inside a SHOW -/

theorem microEffect_enabled {p : BitVec 3} {f : State → State} (hrun : s.run = true) (hphase : s.phase = p) :
    microEffect p f s = f s := by
  simp [microEffect, hrun, hphase]

/-- A stopped engine makes no micro-operation. -/
theorem microEffect_stopped {p : BitVec 3} {f : State → State} (hrun : s.run = false) : microEffect p f s = s := by
  simp [microEffect, hrun]

theorem repeatEffect_fixed {f : State → State} (h : f s = s) : ∀ n, repeatEffect n f s = s
  | 0 => rfl
  | n + 1 => by rw [repeatEffect, h, repeatEffect_fixed h n]

/-- The last of `n + 1` repetitions, apart. -/
theorem repeatEffect_succ_last (f : State → State) : ∀ (n : Nat) (s : State),
    repeatEffect (n + 1) f s = f (repeatEffect n f s)
  | 0, _ => rfl
  | n + 1, s => repeatEffect_succ_last f n (f s)

/-- The rest of a SHOW after an exit at its FETCH (R161). -/
theorem showEffect_stopped {src : Buf} {num den : BitVec 7} (hstop : s.stopReq = true) :
    showEffect src num den s = s.exitEngine := by
  have hidle (p : BitVec 3) (f : State → State) : microEffect p f s.exitEngine = s.exitEngine :=
    microEffect_stopped rfl
  simp only [showEffect, fetchEffect, hstop, if_true, hidle, repeatEffect_fixed (hidle _ _)]

/-! ### LOAD -/

/-- The bytes that `k` read micro-steps of LOAD gather from index `i` on (R142). -/
def State.gathered (s : State) (i k : Nat) : List Byte :=
  (List.range' i k).map fun j => s.mem.byteAt (bufAddr s.cfg s.curSrc.toNat j)

/-- `k` read micro-steps, as far as the frame goes (R142). -/
theorem repeatEffect_load_reads : ∀ (k : Nat) (s : State), s.run = true → s.phase = phaseLoad →
    s.lidx + k ≤ s.cfg.frameBytes →
    repeatEffect k (microEffect phaseLoad loadEffect) s =
      { s with lidx := s.lidx + k, tx := s.tx ++ s.gathered s.lidx k }
  | 0, s, _, _, _ => by simp [repeatEffect, State.gathered]
  | k + 1, s, hrun, hphase, hindex => by
    have hread : loadEffect s = readEffect s := if_pos (by omega)
    rw [repeatEffect, microEffect_enabled hrun hphase, hread,
      repeatEffect_load_reads k (readEffect s) hrun hphase (by simp only [readEffect, State.pushTx]; omega)]
    simp [readEffect, State.pushTx, State.gathered, State.loadAddr, List.range'_succ, Nat.add_assoc, Nat.add_comm 1 k]

theorem bufCode_toNat (buf : Buf) : (bufCode buf).toNat = bufNumber buf := by cases buf <;> rfl

/-- The bytes of a whole LOAD of a buffer are its frame (R63, R142). -/
theorem gathered_frame {src : Buf} (hsrc : s.curSrc = bufCode src) : s.gathered 0 s.cfg.frameBytes = s.frameOf src := by
  simp only [State.gathered, State.frameOf, List.range_eq_range', hsrc, bufCode_toNat]
  rfl

/-- What the transmit of LOAD leaves when it is answered (R143). -/
def State.afterLoad (s : State) (frame : List Byte) : State :=
  ((s.takeBus.pushEvent (.data frame)).withDframe (some frame)).clearTx.withPhase phaseUnpark

@[simp] theorem State.afterLoad_run (s : State) (frame : List Byte) : (s.afterLoad frame).run = s.run := rfl

@[simp] theorem State.afterLoad_env (s : State) (frame : List Byte) : (s.afterLoad frame).env = s.env.takeBus := rfl

theorem loadEffect_transmit_ok (hindex : s.lidx = s.cfg.frameBytes) (hbus : s.nextBus = .ok) :
    loadEffect s = s.afterLoad s.tx := by
  simp only [loadEffect, hindex, Nat.lt_irrefl, if_false, transmitEffect, busCall, hbus]
  rfl

/-- The frame of a buffer is the buffers' and the geometry's alone (R61, R63). -/
theorem frameOf_congr {t : State} (hmem : t.mem = s.mem) (hcfg : t.cfg = s.cfg) (src : Buf) :
    t.frameOf src = s.frameOf src := by
  simp only [State.frameOf, hcfg]
  exact List.map_congr_left fun i _ => by simp only [State.bufByte, hmem, hcfg]

/-- LOAD with an answer: the reads, then the transmit (R142, R143). -/
theorem load_ok {n : Nat} {src : Buf} (hrun : s.run = true) (hphase : s.phase = phaseLoad) (hlidx : s.lidx = 0)
    (htx : s.tx = []) (hn : s.cfg.frameBytes = n) (hsrc : s.curSrc = bufCode src) (hbus : s.nextBus = .ok) :
    repeatEffect (n + 1) (microEffect phaseLoad loadEffect) s = s.afterLoad (s.frameOf src) := by
  subst hn
  have hreads : repeatEffect s.cfg.frameBytes (microEffect phaseLoad loadEffect) s =
      { s with lidx := s.cfg.frameBytes, tx := s.frameOf src } := by
    rw [repeatEffect_load_reads _ s hrun hphase (by omega), hlidx, htx, gathered_frame hsrc]
    simp
  rw [repeatEffect_succ_last, hreads, microEffect_enabled (by exact hrun) (by exact hphase),
    loadEffect_transmit_ok (by rfl) (by exact hbus)]
  rfl

/-! ### PARK with its wait, UNPARK with its wait -/

/-- What PARK leaves when its call is answered (R141). -/
def State.afterPark (s : State) : State :=
  ((s.takeBus.pushEvent (.cmd (parkBytes s.cfg))).withDmux (some s.cfg.parkRows)).withPhase phasePwait

@[simp] theorem State.afterPark_run (s : State) : s.afterPark.run = s.run := rfl

@[simp] theorem State.afterPark_env (s : State) : s.afterPark.env = s.env.takeBus := rfl

@[simp] theorem State.afterPark_cfg (s : State) : s.afterPark.cfg = s.cfg := rfl

@[simp] theorem State.afterPark_mem (s : State) : s.afterPark.mem = s.mem := rfl

@[simp] theorem pwaitEffect_run (s : State) : (pwaitEffect s).run = s.run := rfl

@[simp] theorem pwaitEffect_env (s : State) : (pwaitEffect s).env = s.env := rfl

@[simp] theorem pwaitEffect_cfg (s : State) : (pwaitEffect s).cfg = s.cfg := rfl

@[simp] theorem pwaitEffect_mem (s : State) : (pwaitEffect s).mem = s.mem := rfl

theorem park_pwait_ok (hrun : s.run = true) (hphase : s.phase = phasePark) (hbus : s.nextBus = .ok) :
    microEffect phasePwait pwaitEffect (microEffect phasePark parkEffect s) = pwaitEffect s.afterPark := by
  have hpark : parkEffect s = s.afterPark := by
    rw [parkEffect, busCall, hbus]
    rfl
  rw [microEffect_enabled hrun hphase, hpark, microEffect_enabled (by exact hrun) (by rfl)]

/-- What UNPARK leaves when its call is answered (R144). -/
def State.afterUnpark (s : State) : State :=
  ((s.takeBus.pushEvent (.cmd (unparkBytes s.cfg s.curSrc))).withDmux (some s.cfg.unparkRows)).withPhase phaseXwait

theorem unpark_xwait_ok (hrun : s.run = true) (hphase : s.phase = phaseUnpark) (hbus : s.nextBus = .ok) :
    microEffect phaseXwait xwaitEffect (microEffect phaseUnpark unparkEffect s) = xwaitEffect s.afterUnpark := by
  have hunpark : unparkEffect s = s.afterUnpark := by
    rw [unparkEffect, busCall, hbus]
    rfl
  rw [microEffect_enabled hrun hphase, hunpark, microEffect_enabled (by exact hrun) (by rfl)]

/-! ### A whole SHOW -/

/-- The state in which LOAD finds a SHOW whose first call is answered. -/
def State.atLoad (s : State) (src : Buf) (num den : BitVec 7) : State := pwaitEffect (s.latch src num den).afterPark

@[simp] theorem State.atLoad_run (s : State) (src : Buf) (num den : BitVec 7) : (s.atLoad src num den).run = s.run := by
  simp [State.atLoad]

@[simp] theorem State.atLoad_env (s : State) (src : Buf) (num den : BitVec 7) :
    (s.atLoad src num den).env = s.env.takeBus := by
  simp [State.atLoad]

@[simp] theorem State.atLoad_cfg (s : State) (src : Buf) (num den : BitVec 7) : (s.atLoad src num den).cfg = s.cfg := by
  simp [State.atLoad]

@[simp] theorem State.atLoad_mem (s : State) (src : Buf) (num den : BitVec 7) : (s.atLoad src num den).mem = s.mem := by
  simp [State.atLoad]

/-- SHOW from a FETCH with no stop pending and three answers: each micro-operation finds the phase that the one before
it leaves (R145, R160). -/
theorem showEffect_ok {src : Buf} {num den : BitVec 7} (hrun : s.run = true) (hstop : s.stopReq = false)
    (hpark : s.nextBus = .ok) (hload : s.takeBus.nextBus = .ok) (hunpark : s.takeBus.takeBus.nextBus = .ok) :
    showEffect src num den s =
      xwaitEffect ((s.atLoad src num den).afterLoad (s.frameOf src)).afterUnpark := by
  have hlatch : fetchEffect src num den s = s.latch src num den := by simp [fetchEffect, hstop]
  have hframe : (s.atLoad src num den).frameOf src = s.frameOf src := frameOf_congr (by simp) (by simp) src
  have hwaited : microEffect phasePwait pwaitEffect (microEffect phasePark parkEffect (s.latch src num den)) =
      s.atLoad src num den :=
    park_pwait_ok (by simpa using hrun) rfl (by simpa [State.nextBus] using hpark)
  have hloaded : repeatEffect (s.cfg.frameBytes + 1) (microEffect phaseLoad loadEffect) (s.atLoad src num den) =
      (s.atLoad src num den).afterLoad (s.frameOf src) := by
    rw [← hframe]
    exact load_ok (by simpa using hrun) rfl rfl rfl (by simp) rfl (by simpa [State.nextBus] using hload)
  rw [showEffect, hlatch, hwaited, hloaded]
  exact unpark_xwait_ok (by simpa using hrun) rfl (by simpa [State.nextBus] using hunpark)

theorem Env.takeBus_of_cons {e : Env} {answer : BusAnswer} {rest : List BusAnswer} (h : e.bus = answer :: rest) :
    e.takeBus = { e with bus := rest } := by
  simp [Env.takeBus, h]

theorem nextBus_of_cons {answer : BusAnswer} {rest : List BusAnswer} (h : s.env.bus = answer :: rest) :
    s.nextBus = answer := by
  simp [State.nextBus, h]

end Sys2Proof.Machine

open Sys2Proof.Machine

/-- Settles O40: the two ways a SHOW goes on from its FETCH, with the three answers taken from the list. -/
theorem errorFreeShow : Obligations.ErrorFreeShow := by
  intro s src num den hrun hphase hstep hsrc hfraction
  have hexec : exec (.showEntry src num den) s = .next (showEffect src num den s) :=
    microOp_at hrun hphase (reservedRegs_eq_false hstep hsrc) (if_pos hfraction)
  rw [hexec]
  refine ⟨fun hstop => by rw [showEffect_stopped hstop]; rfl, fun hstop rest hbus => ?_⟩
  have hfirst := Env.takeBus_of_cons hbus
  have hsecond := Env.takeBus_of_cons (e := s.env.takeBus) (congrArg Env.bus hfirst)
  have hthird := Env.takeBus_of_cons (e := s.env.takeBus.takeBus) (congrArg Env.bus hsecond)
  have henv : s.env.takeBus.takeBus.takeBus = { s.env with bus := rest } := by rw [hthird, hsecond, hfirst]
  rw [showEffect_ok hrun hstop (nextBus_of_cons hbus) (nextBus_of_cons (congrArg Env.bus hfirst))
    (nextBus_of_cons (congrArg Env.bus hsecond)), ← henv]
  have hfetch : s.phase = phaseFetch := hphase
  simp [xwaitEffect, pwaitEffect, State.atLoad, State.afterPark, State.afterLoad, State.afterUnpark, State.latch,
    State.advance, State.pushEvent, State.withDmux, State.withDframe, State.withPhase, State.clearTx, State.takeBus,
    State.nextStepIx, State.plan, parkBytes, unparkBytes, hfetch]

end

section
/-!
SUPPORT. O1, O2: decoding and encoding say the same of a word and an instruction. For each format of R91 to R97 the
decoder accepts a word exactly when the opcode and some operands spell it; the opcode map of R98 joins the formats, and
the three code spaces join to one equivalence, of which O1 and O2 are the two directions.
-/

namespace Sys2Proof.Machine

variable {w : Word} {i : Instr}

/-! ### Codes of operands -/

theorem bufOfCode_eq_some_iff {c : BitVec 2} {buf : Buf} : bufOfCode c = some buf ↔ c = bufCode buf := by
  constructor
  · intro h
    unfold bufOfCode at h
    split at h <;> cases h <;> rfl
  · rintro rfl
    cases buf <;> rfl

theorem csrOfNumber_eq_some_iff {n : BitVec 8} {csr : Csr} : csrOfNumber n = some csr ↔ n = csrNumber csr := by
  constructor
  · intro h
    unfold csrOfNumber at h
    split at h <;> cases h <;> rfl
  · rintro rfl
    cases csr <;> rfl

theorem bitField_eq_iff {k : Nat} {b : Bool} : bitField w k = b ↔ w.extractLsb' k 1 = BitVec.ofBool b := by
  have hbit : ∀ x : BitVec 1, (x == 1#1) = b ↔ x = BitVec.ofBool b := by
    cases b <;> decide
  rw [bitField, BitVec.getLsbD_eq_extractLsb', hbit]

theorem layerOfBit_eq_iff {k : Nat} {layer : Layer} :
    layerOfBit (bitField w k) = layer ↔ w.extractLsb' k 1 = layerBit layer := by
  have hlayer : ∀ b, layerOfBit b = layer ↔ b = (layerBit layer == 1#1) := by
    cases layer <;> decide
  rw [hlayer, bitField_eq_iff]
  cases layer <;> rfl

/-! ### A word and its fields -/

/-- A word is a concatenation exactly when its fields are the parts. -/
theorem eq_append_iff_fields {m n : Nat} {high : BitVec m} {low : BitVec n} {x : BitVec (m + n)} :
    x = high ++ low ↔ x.extractLsb' n m = high ∧ x.extractLsb' 0 n = low := by
  constructor
  · rintro rfl
    exact ⟨BitVec.extractLsb'_append_eq_left, BitVec.extractLsb'_append_eq_right⟩
  · rintro ⟨rfl, rfl⟩
    exact BitVec.extractLsb'_append_extractLsb'.symm

/-- A field of a field is a field. -/
theorem extractLsb'_extractLsb' {n start len start' len' : Nat} {x : BitVec n} (h : start' + len' ≤ len) :
    (x.extractLsb' start len).extractLsb' start' len' = x.extractLsb' (start + start') len' := by
  refine BitVec.eq_of_getLsbD_eq fun k hk => ?_
  have hlen : start' + k < len := by omega
  simp [hlen, hk, Nat.add_assoc]

theorem commandWord_eq_command_iff {op : BitVec 8} {operands : BitVec 24} :
    commandWord op operands = .command w ↔ opField w = op ∧ w.extractLsb' 0 24 = operands := by
  rw [commandWord, BitVec.cast_eq, Code.command.injEq, eq_comm]
  exact eq_append_iff_fields (m := 8) (n := 24)

/-! ### The formats

In each, the 24 operand bits are cut into the format's fields; the operands that spell them are those fields, and what
is left to show is that the decoder reads just these. -/

theorem checkZero_eq_ok_iff {zero : Bool} {rest : Except Reject Instr} :
    checkZero zero rest = .ok i ↔ zero = true ∧ rest = .ok i := by
  cases zero <;> simp [checkZero]

/-- Format N (R91). -/
theorem decodeN_eq_ok_iff {j : Instr} : decodeN w j = .ok i ↔ j = i ∧ w.extractLsb' 0 24 = 0#24 := by
  simp only [decodeN, checkZero_eq_ok_iff, beq_iff_eq, Except.ok.injEq, and_comm]

/-- Format D (R92). -/
theorem decodeD_eq_ok_iff {mk : BitVec 16 → Instr} :
    decodeD w mk = .ok i ↔ ∃ delta, mk delta = i ∧ w.extractLsb' 0 24 = 0#8 ++ delta := by
  simp (disch := decide) only [decodeD, checkZero_eq_ok_iff, beq_iff_eq, Except.ok.injEq,
    eq_append_iff_fields (m := 8) (n := 16), extractLsb'_extractLsb', Nat.reduceAdd]
  grind

/-- Format P (R93). -/
theorem decodeP_eq_ok_iff :
    decodeP w = .ok i ↔ ∃ layer x y bit, .setpx layer x y bit = i ∧
      w.extractLsb' 0 24 = 0#6 ++ layerBit layer ++ BitVec.ofBool bit ++ x ++ y := by
  simp (disch := decide) only [decodeP, checkZero_eq_ok_iff, beq_iff_eq, Except.ok.injEq,
    eq_append_iff_fields (m := 16) (n := 8), eq_append_iff_fields (m := 8) (n := 8),
    eq_append_iff_fields (m := 7) (n := 1), eq_append_iff_fields (m := 6) (n := 1), extractLsb'_extractLsb',
    Nat.reduceAdd, ← bitField_eq_iff, ← layerOfBit_eq_iff]
  grind

/-- Format F (R94). -/
theorem decodeF_eq_ok_iff :
    decodeF w = .ok i ↔ ∃ layer bit, .fill layer bit = i ∧
      w.extractLsb' 0 24 = 0#6 ++ layerBit layer ++ BitVec.ofBool bit ++ 0#16 := by
  simp (disch := decide) only [decodeF, checkZero_eq_ok_iff, Bool.and_eq_true, beq_iff_eq, Except.ok.injEq,
    eq_append_iff_fields (m := 8) (n := 16), eq_append_iff_fields (m := 7) (n := 1),
    eq_append_iff_fields (m := 6) (n := 1), extractLsb'_extractLsb', Nat.reduceAdd, ← bitField_eq_iff,
    ← layerOfBit_eq_iff]
  grind

/-- Format C (R95). -/
theorem decodeC_eq_ok_iff :
    decodeC w = .ok i ↔ ∃ bitA bitB, .resolve bitA bitB = i ∧
      w.extractLsb' 0 24 = 0#22 ++ BitVec.ofBool bitA ++ BitVec.ofBool bitB := by
  simp (disch := decide) only [decodeC, checkZero_eq_ok_iff, beq_iff_eq, Except.ok.injEq,
    eq_append_iff_fields (m := 23) (n := 1), eq_append_iff_fields (m := 22) (n := 1), extractLsb'_extractLsb',
    Nat.reduceAdd, ← bitField_eq_iff]
  grind

/-- Format B for WRBYTE (R96, R101). -/
theorem decodeWrbyte_eq_ok_iff :
    decodeWrbyte w = .ok i ↔ ∃ buf index value, .wrbyte buf index value = i ∧
      w.extractLsb' 0 24 = bufCode buf ++ index ++ value := by
  simp (disch := decide) only [decodeWrbyte, eq_append_iff_fields (m := 16) (n := 8),
    eq_append_iff_fields (m := 2) (n := 14), extractLsb'_extractLsb', Nat.reduceAdd, ← bufOfCode_eq_some_iff]
  grind

/-- Format B for RDBYTE (R96, R101). -/
theorem decodeRdbyte_eq_ok_iff :
    decodeRdbyte w = .ok i ↔ ∃ buf index, .rdbyte buf index = i ∧
      w.extractLsb' 0 24 = bufCode buf ++ index ++ 0#8 := by
  simp (disch := decide) only [decodeRdbyte, checkZero_eq_ok_iff, beq_iff_eq, eq_append_iff_fields (m := 16) (n := 8),
    eq_append_iff_fields (m := 2) (n := 14), extractLsb'_extractLsb', Nat.reduceAdd, ← bufOfCode_eq_some_iff]
  grind

/-- Format R (R97, R101). -/
theorem decodeR_eq_ok_iff :
    decodeR w = .ok i ↔ ∃ csr, .rdcsr csr = i ∧ w.extractLsb' 0 24 = 0#16 ++ csrNumber csr := by
  simp (disch := decide) only [decodeR, checkZero_eq_ok_iff, beq_iff_eq, eq_append_iff_fields (m := 16) (n := 8),
    extractLsb'_extractLsb', Nat.reduceAdd, ← csrOfNumber_eq_some_iff]
  grind

/-! ### The three code spaces -/

/-- A command word: its opcode selects the format, whose operands spell the rest of the word (R90, R98). -/
theorem encode_of_decodeCommand (h : decodeCommand w = .ok i) : encode i = .command w := by
  unfold decodeCommand at h
  split at h <;> rename_i hop
  case h_5 =>
    obtain ⟨csr, rfl, hoperands⟩ := decodeR_eq_ok_iff.1 h
    exact commandWord_eq_command_iff.2 ⟨hop, hoperands⟩
  case h_7 | h_8 =>
    obtain ⟨delta, rfl, hoperands⟩ := decodeD_eq_ok_iff.1 h
    exact commandWord_eq_command_iff.2 ⟨hop, hoperands⟩
  case h_11 =>
    obtain ⟨layer, x, y, bit, rfl, hoperands⟩ := decodeP_eq_ok_iff.1 h
    exact commandWord_eq_command_iff.2 ⟨hop, hoperands⟩
  case h_12 =>
    obtain ⟨layer, bit, rfl, hoperands⟩ := decodeF_eq_ok_iff.1 h
    exact commandWord_eq_command_iff.2 ⟨hop, hoperands⟩
  case h_14 =>
    obtain ⟨bitA, bitB, rfl, hoperands⟩ := decodeC_eq_ok_iff.1 h
    exact commandWord_eq_command_iff.2 ⟨hop, hoperands⟩
  case h_15 =>
    obtain ⟨buf, index, value, rfl, hoperands⟩ := decodeWrbyte_eq_ok_iff.1 h
    exact commandWord_eq_command_iff.2 ⟨hop, hoperands⟩
  case h_16 =>
    obtain ⟨buf, index, rfl, hoperands⟩ := decodeRdbyte_eq_ok_iff.1 h
    exact commandWord_eq_command_iff.2 ⟨hop, hoperands⟩
  case h_17 => cases h
  all_goals
    obtain ⟨rfl, hoperands⟩ := decodeN_eq_ok_iff.1 h
    exact commandWord_eq_command_iff.2 ⟨hop, hoperands⟩

/-- Each command has its own opcode, which selects the format that reads its operands back (R90, R98). -/
theorem decodeCommand_of_encode (h : encode i = .command w) : decodeCommand w = .ok i := by
  cases i
  case showEntry | fetch | park | pwait | load | unpark | xwait => cases h
  all_goals
    obtain ⟨hop, hoperands⟩ := commandWord_eq_command_iff.1 h
    simp only [decodeCommand, hop]
  case rdcsr csr => exact decodeR_eq_ok_iff.2 ⟨csr, rfl, hoperands⟩
  case adjc delta | adjf delta => exact decodeD_eq_ok_iff.2 ⟨delta, rfl, hoperands⟩
  case setpx layer x y bit => exact decodeP_eq_ok_iff.2 ⟨layer, x, y, bit, rfl, hoperands⟩
  case fill layer bit => exact decodeF_eq_ok_iff.2 ⟨layer, bit, rfl, hoperands⟩
  case resolve bitA bitB => exact decodeC_eq_ok_iff.2 ⟨bitA, bitB, rfl, hoperands⟩
  case wrbyte buf index value => exact decodeWrbyte_eq_ok_iff.2 ⟨buf, index, value, rfl, hoperands⟩
  case rdbyte buf index => exact decodeRdbyte_eq_ok_iff.2 ⟨buf, index, rfl, hoperands⟩
  all_goals exact decodeN_eq_ok_iff.2 ⟨rfl, hoperands⟩

theorem hostCommand_wellFormed (h : hostCommand i = true) : i.wellFormed = true := by
  cases i with
  | showEntry => cases h
  | _ => rfl

theorem plan_eq_iff_fields {v : BitVec 16} {src : Buf} {num den : BitVec 7} :
    encode (.showEntry src num den) = .plan v ↔
      bufOfCode (v.extractLsb' 14 2) = some src ∧ v.extractLsb' 7 7 = num ∧ v.extractLsb' 0 7 = den := by
  rw [encode, BitVec.cast_eq, Code.plan.injEq, eq_comm, eq_append_iff_fields (m := 9) (n := 7),
    eq_append_iff_fields (m := 2) (n := 7), bufOfCode_eq_some_iff, and_assoc]
  simp (disch := decide) only [extractLsb'_extractLsb', Nat.reduceAdd]

/-- Plan entries (R110). -/
theorem decodePlanEntry_eq_ok_iff {v : BitVec 16} :
    decodePlanEntry v = .ok i ↔ i.wellFormed = true ∧ encode i = .plan v := by
  constructor
  · intro h
    unfold decodePlanEntry at h
    split at h
    · cases h
    · next src hsrc =>
      split at h
      · next hfraction =>
        cases h
        exact ⟨hfraction, plan_eq_iff_fields.2 ⟨hsrc, rfl, rfl⟩⟩
      · cases h
  · rintro ⟨hwf, hplan⟩
    cases i
    case showEntry src num den =>
      obtain ⟨hsrc, rfl, rfl⟩ := plan_eq_iff_fields.1 hplan
      rw [decodePlanEntry, hsrc]
      exact if_pos hwf
    all_goals cases hplan

/-- `PHASE` codes (R26, R109). -/
theorem decodePhase_eq_ok_iff {p : BitVec 3} : decodePhase p = .ok i ↔ encode i = .phase p := by
  constructor
  · intro h
    obtain ⟨rfl, rfl⟩ | ⟨rfl, rfl⟩ | ⟨rfl, rfl⟩ | ⟨rfl, rfl⟩ | ⟨rfl, rfl⟩ | ⟨rfl, rfl⟩ := decodePhase_cases h <;> rfl
  · intro h
    cases i <;> cases h <;> rfl

/-- A word decodes to an instruction exactly when the instruction is well-formed and that is its word (R102, R106). -/
theorem decode_eq_ok_iff {c : Code} : decode c = .ok i ↔ i.wellFormed = true ∧ encode i = c := by
  cases c with
  | command w =>
    exact ⟨fun h => ⟨hostCommand_wellFormed (decodeCommand_hostCommand h), encode_of_decodeCommand h⟩,
      fun h => decodeCommand_of_encode h.2⟩
  | plan v => exact decodePlanEntry_eq_ok_iff
  | phase p =>
    refine decodePhase_eq_ok_iff.trans ⟨fun h => ⟨?_, h⟩, And.right⟩
    cases i with
    | showEntry => cases h
    | _ => rfl

end Sys2Proof.Machine

open Sys2Proof.Machine

/-- Settles O1: an instruction's own word is one that decodes to it. -/
theorem decodeReadsBackEveryEncoding : Obligations.DecodeReadsBackEveryEncoding := fun _ hwf =>
  decode_eq_ok_iff.2 ⟨hwf, rfl⟩

/-- Settles O2: what decodes is the well-formed instruction whose word it is. -/
theorem decodedWordsAreCanonical : Obligations.DecodedWordsAreCanonical := fun _ _ h => decode_eq_ok_iff.1 h

end

section
/-!
SUPPORT. O60: no step stops. A host's command stops nowhere but at an address of `3N` or above, which the geometry rules
out; the engine nowhere but at a reserved value or an ill-formed plan, which the invariant rules out.
-/

namespace Sys2Proof.Machine

variable {s : State}

/-- A step, or a part of one, that goes on to a next state. -/
def Answers (r : Result) : Prop := ∃ t, r = .next t

theorem answers_next (t : State) : Answers (.next t) := ⟨t, rfl⟩

/-! ### The shared operations -/

theorem capGuard_answers {effect : Result} (h : Answers effect) : Answers (capGuard s effect) := by
  obtain ⟨_, he⟩ | ⟨_, he⟩ := capGuard_cases s effect <;> rw [he]
  · exact answers_next _
  · exact h

theorem memRead_answers {a : Nat} {k : Byte → Result} (ha : a < 3 * s.cfg.frameBytes) (hk : ∀ v, Answers (k v)) :
    Answers (orNoSuchAddress (s.memRead a) k) := by
  rw [memRead_of_lt ha]
  exact hk _

theorem memWrite_answers {a : Nat} {v : Byte} {k : State → Result} (ha : a < 3 * s.cfg.frameBytes)
    (hk : ∀ t, Answers (k t)) : Answers (orNoSuchAddress (s.memWrite a v) k) := by
  rw [memWrite_of_lt v ha]
  exact hk _

theorem microOp_answers {p : BitVec 3} {effect : Result} (hreg : s.reservedRegs = false)
    (h : s.run = true → s.phase = p → Answers effect) : Answers (microOp p s effect) := by
  by_cases henabled : s.run = true ∧ s.phase = p
  · obtain ⟨hrun, hphase⟩ := henabled
    rw [microOp_at hrun hphase hreg rfl]
    exact h hrun hphase
  · rw [microOp_disabled p s effect henabled]
    exact answers_next s

/-! ### The host -/

theorem fillMicroStep_answers (layer : Layer) (v : Byte) (i : Nat) (s : State) :
    Answers (fillMicroStep layer v i s) := by
  by_cases hi : i < s.cfg.frameBytes
  · exact ⟨_, fillMicroStep_of_lt layer v hi⟩
  · exact ⟨_, fillMicroStep_of_le layer v (Nat.le_of_not_lt hi)⟩

theorem deriveMicroStep_answers (i : Nat) (s : State) : Answers (deriveMicroStep i s) := by
  by_cases hi : i < s.cfg.frameBytes
  · exact ⟨_, deriveMicroStep_of_lt hi⟩
  · exact ⟨_, deriveMicroStep_of_le (Nat.le_of_not_lt hi)⟩

theorem execSetpx_answers (hheight : s.cfg.h % 8 = 0) (layer : Layer) (x y : BitVec 8) (bit : Bool) :
    Answers (execSetpx layer x y bit s) := by
  refine capGuard_answers ?_
  split
  · exact answers_next _
  · next hin =>
    have haddr : bufAddr s.cfg (layerNumber layer) (pixelIndex s.cfg x.toNat y.toNat) < 3 * s.cfg.frameBytes :=
      bufAddr_lt (Nat.lt_succ_of_lt (layerNumber_lt layer)) (pixelIndex_lt hheight (by omega) (by omega))
    exact memRead_answers haddr fun _ => memWrite_answers haddr fun _ => answers_next _

theorem bufNumber_lt (buf : Buf) : bufNumber buf < 3 := by cases buf <;> decide

theorem execWrbyte_answers (buf : Buf) (index : BitVec 14) (value : Byte) (s : State) :
    Answers (execWrbyte buf index value s) := by
  refine capGuard_answers ?_
  split
  · exact answers_next _
  · exact memWrite_answers (bufAddr_lt (bufNumber_lt buf) (by omega)) fun _ => answers_next _

theorem execRdbyte_answers (buf : Buf) (index : BitVec 14) (s : State) : Answers (execRdbyte buf index s) := by
  refine capGuard_answers ?_
  split
  · exact answers_next _
  · exact memRead_answers (bufAddr_lt (bufNumber_lt buf) (by omega)) fun _ => answers_next _

theorem exec_command_answers {i : Instr} (hi : hostCommand i = true) (hheight : s.cfg.h % 8 = 0) :
    Answers (exec i s) := by
  cases i
  case showEntry | fetch | park | pwait | load | unpark | xwait => cases hi
  case setpx layer x y bit => exact execSetpx_answers hheight layer x y bit
  case fill layer bit => exact capGuard_answers (fillMicroStep_answers _ _ _ _)
  case derive => exact capGuard_answers (deriveMicroStep_answers _ _)
  case wrbyte buf index value => exact execWrbyte_answers buf index value s
  case rdbyte buf index => exact execRdbyte_answers buf index s
  case rdcsr => exact answers_next _
  all_goals exact capGuard_answers (answers_next _)

theorem hostStep_answers (hpick : s.nextPick = .host) (hheight : s.cfg.h % 8 = 0) : Answers (step s) := by
  cases hhop : s.hop with
  | none =>
    cases hwords : s.env.words with
    | nil => exact ⟨_, step_host_idle hpick hhop hwords⟩
    | cons w rest =>
      cases hdecode : decodeCommand w with
      | ok i =>
        rw [step_of_run (nextMove_host_decodes hpick hhop hwords hdecode)]
        exact exec_command_answers (decodeCommand_hostCommand hdecode) hheight
      | error why => exact ⟨_, step_host_rejects hpick hhop hwords hdecode⟩
  | fill layer v i =>
    rw [step_host_fill hpick hhop]
    exact fillMicroStep_answers _ _ _ _
  | derive i =>
    rw [step_host_derive hpick hhop]
    exact deriveMicroStep_answers _ _
  | stopwait => exact ⟨_, step_host_stopwait hpick hhop⟩

/-! ### The plan -/

/-- Every word of a plan with fractions is a plan entry (R8, R110). -/
theorem decodePlanEntry_of_mem {w : BitVec 16} : ∀ {plan : List (BitVec 16)} {fs : List (Buf × Nat × Nat)},
    planFractions plan = some fs → w ∈ plan → ∃ src num den, decodePlanEntry w = .ok (.showEntry src num den)
  | v :: rest, _, hfs, hw => by
    unfold planFractions at hfs
    split at hfs
    · next src num den more hv hmore =>
      obtain rfl | hw := List.mem_cons.1 hw
      · exact ⟨src, num, den, hv⟩
      · exact decodePlanEntry_of_mem hmore hw
    · cases hfs

theorem plan_wellFormed (h : s.cfg.WellFormed) : planWellFormed s.plan = true := by
  unfold State.plan
  split
  · exact h.plans.1
  · exact h.plans.2

/-- The engine always stands at a well-formed entry of its plan (R110, R161). -/
theorem planEntry_of_wellFormed (h : s.cfg.WellFormed) : ∃ entry, s.planEntry = some entry := by
  have hclipped : s.clippedStep.toNat < s.plan.length := by
    have hpos := (plan_length h).1
    unfold State.clippedStep
    split
    · exact hpos
    · omega
  have hword : s.planWord = some s.plan[s.clippedStep.toNat] := List.getElem?_eq_getElem hclipped
  have hplan := plan_wellFormed h
  unfold planWellFormed at hplan
  split at hplan
  · cases hplan
  · next hfs =>
    obtain ⟨src, num, den, hentry⟩ := decodePlanEntry_of_mem hfs (List.getElem_mem hclipped)
    exact ⟨(src, num, den), by simp only [State.planEntry, hword, hentry]⟩

/-! ### The engine -/

theorem loadAddr_lt (hsrc : s.curSrc ≠ 3#2) (hindex : s.lidx < s.cfg.frameBytes) :
    s.loadAddr < 3 * s.cfg.frameBytes := by
  have hbuf : s.curSrc.toNat < 3 := by
    have hne : s.curSrc.toNat ≠ 3 := fun h => hsrc (BitVec.eq_of_toNat_eq h)
    omega
  exact bufAddr_lt hbuf hindex

namespace Invariant

variable (hs : Invariant s)
include hs

theorem reservedRegs : s.reservedRegs = false := reservedRegs_eq_false hs.stepLegal hs.srcLegal

theorem fetch_answers : Answers (execFetch s) := by
  refine microOp_answers hs.reservedRegs fun _ _ => ?_
  obtain ⟨entry, hentry⟩ := planEntry_of_wellFormed hs.config
  rw [hentry]
  split <;> exact answers_next _

theorem load_answers : Answers (execLoad s) := by
  refine microOp_answers hs.reservedRegs fun _ _ => ?_
  rw [if_neg (Nat.not_lt.2 hs.loadBound)]
  split
  · next hindex => exact memRead_answers (loadAddr_lt hs.srcLegal hindex) fun _ => answers_next _
  · exact answers_next _

theorem xwait_answers : Answers (execXwait s) := by
  refine microOp_answers hs.reservedRegs fun _ hphase => ?_
  have hfraction := hs.latched (insideStep_of_phase hphase (by decide))
  have hden : s.curDen ≠ 0#7 := by
    simp only [fractionWellFormed, Bool.and_eq_true, bne_iff_ne] at hfraction
    exact hfraction.1.2
  rw [if_neg hden]
  exact answers_next _

theorem phase_answers {i : Instr} (hdecode : decodePhase s.phase = .ok i) : Answers (exec i s) := by
  obtain ⟨_, rfl⟩ | ⟨_, rfl⟩ | ⟨_, rfl⟩ | ⟨_, rfl⟩ | ⟨_, rfl⟩ | ⟨_, rfl⟩ := decodePhase_cases hdecode
  · exact hs.fetch_answers
  · exact microOp_answers hs.reservedRegs fun _ _ => answers_next _
  · exact microOp_answers hs.reservedRegs fun _ _ => answers_next _
  · exact hs.load_answers
  · exact microOp_answers hs.reservedRegs fun _ _ => answers_next _
  · exact hs.xwait_answers

/-- A running engine's phase names a micro-operation: it is neither IDLE nor the reserved 7 (R26). -/
theorem decodePhase_of_run (hrun : s.run = true) : ∃ i, decodePhase s.phase = .ok i := by
  have hnotIdle : s.phase ≠ phaseIdle := fun h => by simp [hs.idle.1 h] at hrun
  have hcodes : ∀ p : BitVec 3, p ≠ phaseIdle → p ≠ 7#3 → (decodePhase p).isOk = true := by decide
  have hok := hcodes s.phase hnotIdle hs.phaseLegal
  cases hdecode : decodePhase s.phase with
  | ok i => exact ⟨i, rfl⟩
  | error why =>
    rw [hdecode] at hok
    cases hok

theorem engineMove_answers : Answers (engineMove s).answer := by
  cases hrun : s.run with
  | false => exact ⟨s, by simp [engineMove, hrun, Move.answer]⟩
  | true =>
    obtain ⟨i, hdecode⟩ := hs.decodePhase_of_run hrun
    simpa [engineMove, hrun, hdecode, Move.answer] using hs.phase_answers hdecode

theorem subframeMove_answers : Answers (subframeMove s).answer := by
  obtain ⟨src, num, den, _, _, hentry, hmove⟩ | hmove := subframeMove_cases s <;> rw [hmove]
  · refine microOp_answers hs.reservedRegs fun _ _ => ?_
    rw [if_pos (planEntry_wellFormed s src num den hentry)]
    exact answers_next _
  · exact hs.engineMove_answers

theorem step_answers : Answers (step s) := by
  obtain ⟨hpick, _⟩ | ⟨_, hmove⟩ | ⟨_, hmove⟩ | ⟨c, hpick, _⟩ := nextMove_cases s
  · exact hostStep_answers hpick hs.config.height.1
  · rw [step_eq_answer, hmove]
    exact hs.takePick.engineMove_answers
  · rw [step_eq_answer, hmove]
    exact hs.takePick.subframeMove_answers
  · exact ⟨_, step_reset hpick⟩

end Invariant

end Sys2Proof.Machine

open Sys2Proof.Machine

/-- Settles O60: whoever moves, the invariant excludes every stop on its way. -/
theorem noStepStops : Obligations.NoStepStops := fun _ hs => hs.step_answers

end

section
/-!
SUPPORT. O3, O4, O5: the words that spell no command, by their opcode (R99), their zero fields (R100) and their reserved
values (R101), and the spec's example words.
-/

namespace Sys2Proof.Machine

variable {cmd : Word}

/-! ### Fields of a word as numbers -/

theorem extractLsb'_toNat_eq {n : Nat} (x : BitVec n) (start len : Nat) :
    (x.extractLsb' start len).toNat = x.toNat / 2 ^ start % 2 ^ len := by
  rw [BitVec.extractLsb'_toNat, Nat.shiftRight_eq_div_pow]

theorem opField_toNat (cmd : Word) : (opField cmd).toNat = cmd.toNat / 2 ^ 24 := by
  rw [opField, extractLsb'_toNat_eq]
  exact Nat.mod_eq_of_lt (by omega)

theorem opField_eq {n : Nat} (h : cmd.toNat / 2 ^ 24 = n) : opField cmd = BitVec.ofNat 8 n := by
  rw [← h, ← opField_toNat, BitVec.ofNat_toNat, BitVec.setWidth_eq]

/-! ### Reserved opcodes and reserved values -/

/-- An opcode outside the map of R98 is reserved (R99). -/
theorem decodeCommand_reserved
    (h : cmd.toNat / 2 ^ 24 ∉
      [0x01, 0x02, 0x03, 0x04, 0x08, 0x10, 0x11, 0x12, 0x13, 0x14, 0x20, 0x21, 0x22, 0x23, 0x24, 0x25]) :
    decodeCommand cmd = .error .reservedOpcode := by
  rw [← opField_toNat] at h
  unfold decodeCommand
  split
  case h_17 => rfl
  all_goals next hop => exact absurd h (by rw [hop]; decide)

/-- A refused word is answered ILLEGAL; the word and the pick are used up, and nothing else changes (R106, R232). -/
theorem step_rejected {s : State} {rest : List Word} {why : Reject} (hpick : s.nextPick = .host) (hhop : s.hop = .none)
    (hwords : s.env.words = cmd :: rest) (hdecode : decodeCommand cmd = .error why) :
    step s = .next { s.takePick with
      env := { s.takePick.env with words := rest }, resp := s.resp ++ [⟨1#8, 0#32⟩] } :=
  step_host_rejects hpick hhop hwords hdecode

theorem bufOfCode_reserved {start : Nat} (h : cmd.toNat / 2 ^ start % 4 = 3) :
    bufOfCode (cmd.extractLsb' start 2) = none := by
  have hcode : cmd.extractLsb' start 2 = 3#2 := BitVec.eq_of_toNat_eq ((extractLsb'_toNat_eq cmd start 2).trans h)
  rw [hcode]
  rfl

theorem csrOfNumber_reserved {n : BitVec 8} (h : 3 ≤ n.toNat) : csrOfNumber n = none := by
  unfold csrOfNumber
  split
  case h_4 => rfl
  all_goals exact absurd h (by decide)

/-! ### Zero fields -/

/-- A zero field that is not zero is refused, whatever the rest of the format would decode (R100, R106). -/
theorem checkZero_reservedField {start len : Nat} (rest : Except Reject Instr)
    (h : cmd.toNat / 2 ^ start % 2 ^ len ≠ 0) :
    checkZero (cmd.extractLsb' start len == 0#len) rest = .error .reservedField := by
  have hfield : cmd.extractLsb' start len ≠ 0#len := fun he => h (by rw [← extractLsb'_toNat_eq, he]; rfl)
  rw [checkZero, if_neg (by simpa using hfield)]

/-- A zero field that is zero is passed over. -/
theorem checkZero_zero {start len : Nat} (rest : Except Reject Instr) (h : cmd.toNat / 2 ^ start % 2 ^ len = 0) :
    checkZero (cmd.extractLsb' start len == 0#len) rest = rest := by
  have hfield : cmd.extractLsb' start len = 0#len := BitVec.eq_of_toNat_eq ((extractLsb'_toNat_eq _ _ _).trans h)
  rw [checkZero, if_pos (by simpa using hfield)]

/-- Format F has two zero fields (R94). -/
theorem checkZero_and_reservedField {start len start' len' : Nat} (rest : Except Reject Instr)
    (h : cmd.toNat / 2 ^ start % 2 ^ len ≠ 0 ∨ cmd.toNat / 2 ^ start' % 2 ^ len' ≠ 0) :
    checkZero (cmd.extractLsb' start len == 0#len && cmd.extractLsb' start' len' == 0#len') rest =
      .error .reservedField := by
  have hsplit (a b : Bool) : checkZero (a && b) rest = checkZero a (checkZero b rest) := by
    cases a <;> rfl
  rw [hsplit]
  by_cases hfirst : cmd.toNat / 2 ^ start % 2 ^ len = 0
  · rw [checkZero_zero _ hfirst, checkZero_reservedField _ (h.resolve_left (not_not.2 hfirst))]
  · exact checkZero_reservedField _ hfirst

/-- The opcodes of format N (R91, R98). -/
theorem decodeCommand_formatN (h : cmd.toNat / 2 ^ 24 ∈ [0x01, 0x02, 0x03, 0x04, 0x10, 0x13, 0x14, 0x22]) :
    ∃ i, decodeCommand cmd = decodeN cmd i := by
  simp only [List.mem_cons, List.not_mem_nil, or_false] at h
  obtain h | h | h | h | h | h | h | h := h <;> exact ⟨_, by simp only [decodeCommand, opField_eq h]; rfl⟩

/-- The opcodes of format D (R92, R98). -/
theorem decodeCommand_formatD (h : cmd.toNat / 2 ^ 24 ∈ [0x11, 0x12]) :
    ∃ mk, decodeCommand cmd = decodeD cmd mk := by
  simp only [List.mem_cons, List.not_mem_nil, or_false] at h
  obtain h | h := h <;> exact ⟨_, by simp only [decodeCommand, opField_eq h]; rfl⟩

theorem decodeP_reservedField (h : cmd.toNat / 2 ^ 18 % 2 ^ 6 ≠ 0) : decodeP cmd = .error .reservedField :=
  checkZero_reservedField _ h

theorem decodeF_reservedField (h : cmd.toNat / 2 ^ 18 % 2 ^ 6 ≠ 0 ∨ cmd.toNat % 2 ^ 16 ≠ 0) :
    decodeF cmd = .error .reservedField :=
  checkZero_and_reservedField _ (h.imp_right fun h => by rwa [Nat.pow_zero, Nat.div_one])

/-- Format B of RDBYTE past its zero field (R96, R101). -/
theorem decodeRdbyte_reservedValue (hzero : cmd.toNat % 2 ^ 8 = 0) (h : cmd.toNat / 2 ^ 22 % 4 = 3) :
    decodeRdbyte cmd = .error .reservedValue := by
  rw [decodeRdbyte, checkZero_zero _ (by rwa [Nat.pow_zero, Nat.div_one]), bufOfCode_reserved h]

/-- Format R past its zero field (R97, R101). -/
theorem decodeR_reservedValue (hzero : cmd.toNat / 2 ^ 8 % 2 ^ 16 = 0) (h : 3 ≤ cmd.toNat % 2 ^ 8) :
    decodeR cmd = .error .reservedValue := by
  have hnumber : 3 ≤ (cmd.extractLsb' 0 8).toNat := by
    rwa [extractLsb'_toNat_eq, Nat.pow_zero, Nat.div_one]
  rw [decodeR, checkZero_zero _ hzero, csrOfNumber_reserved hnumber]

end Sys2Proof.Machine

open Sys2Proof Sys2Proof.Machine

/-- Settles O3: an opcode outside the map is refused by the decoder, and the port answers what the decoder refuses. -/
theorem reservedOpcodeIsIllegal : Obligations.ReservedOpcodeIsIllegal :=
  ⟨rfl, rfl, fun _ _ _ hop hpick hhop hwords =>
    ⟨decodeCommand_reserved hop, step_rejected hpick hhop hwords (decodeCommand_reserved hop)⟩⟩

/-- Settles O4: the opcode selects the format, which refuses at its zero field or, past it, at its reserved value. -/
theorem reservedFieldsAreRejected : Obligations.ReservedFieldsAreRejected := by
  refine ⟨fun cmd => ⟨fun hop h => ?_, fun hop h => ?_, fun hop h => ?_, fun hop h => ?_, fun hop h => ?_,
    fun hop h => ?_, fun hop h => ?_, fun hop h => ?_, fun hop hzero h => ?_, fun hop hzero h => ?_⟩,
    fun _ _ _ _ => step_rejected⟩
  · obtain ⟨i, hformat⟩ := decodeCommand_formatN hop
    rw [hformat]
    exact checkZero_reservedField _ (by rwa [Nat.pow_zero, Nat.div_one])
  · obtain ⟨mk, hformat⟩ := decodeCommand_formatD hop
    rw [hformat]
    exact checkZero_reservedField _ h
  · simp only [List.mem_cons, List.not_mem_nil, or_false] at hop
    obtain hop | hop := hop <;> simp only [decodeCommand, opField_eq hop]
    · exact decodeP_reservedField h
    · exact decodeF_reservedField (.inl h)
  all_goals simp only [decodeCommand, opField_eq hop]
  · exact decodeF_reservedField (.inr h)
  · exact checkZero_reservedField _ h
  · exact checkZero_reservedField _ (by rwa [Nat.pow_zero, Nat.div_one])
  · exact checkZero_reservedField _ h
  · simp only [decodeWrbyte, bufOfCode_reserved h]
  · exact decodeRdbyte_reservedValue hzero h
  · exact decodeR_reservedValue hzero h

/-- Settles O5: each word evaluated by the decoder. -/
theorem exampleWordsDecode : Obligations.ExampleWordsDecode :=
  ⟨rfl, rfl, rfl, rfl, rfl, rfl, rfl, rfl⟩

end

section
/-!
SUPPORT. O32, O36: PARK and UNPARK, each by the bus's answer.
-/

open Sys2Proof Sys2Proof.Machine

/-- Settles O32: the bytes are those of `SetMux`, and PARK is its one bus call. -/
theorem parkSendsTheParkCommand : Obligations.ParkSendsTheParkCommand := by
  refine ⟨setMux_rowsMinusOne, rfl, rfl, fun s hrun hphase hstep hsrc => ?_⟩
  have hreg := reservedRegs_eq_false hstep hsrc
  refine ⟨fun hbus => microOp_at hrun hphase hreg ?_, fun hbus => microOp_at hrun hphase hreg ?_⟩
  · simp only [parkEffect, busCall, hbus]
    rfl
  · simp only [parkEffect, busCall, hbus]
    rfl

/-- Settles O36: UNPARK is its one bus call; the latched source selects the extra bytes. -/
theorem unparkSendsTheUnparkCommand : Obligations.UnparkSendsTheUnparkCommand := by
  intro s src hrun hphase hstep hsrc
  have hreg := reservedRegs_eq_false hstep (hsrc ▸ bufCode_legal src)
  refine ⟨fun hbus => microOp_at hrun hphase hreg ?_, fun hbus => microOp_at hrun hphase hreg ?_⟩
  · have hbytes : unparkBytes s.cfg s.curSrc = unparkBytes s.cfg (bufCode src) := congrArg _ hsrc
    simp only [unparkEffect, busCall, hbus, State.takeBus_cfg, State.takeBus_curSrc, hbytes]
    cases src <;> rfl
  · simp only [unparkEffect, busCall, hbus]
    rfl

end

section
/-!
SUPPORT. O42: a refresh cycle is three error-free SHOWs. Between them the engine stands at the FETCH of the next entry,
with the buffers, the configuration, `CYCLE` and `GS` of the start (R160, R167, R170).
-/

namespace Sys2Proof.Machine

/-- The five events of an error-free SHOW (R145). -/
def showEvents (s : State) (src : Buf) (num den : BitVec 7) : List Event :=
  [.cmd (setMux s.cfg s.cfg.parkRows), .wait (rowTime s.cfg s.cycle s.cfg.parkWaitRows), .data (s.frameOf src),
    .cmd (setMux s.cfg s.cfg.unparkRows ++ s.cfg.extraCmd (bufCode src)), .wait (expose s.cycle num den)]

/-- The engine at the FETCH of entry `ix` within a cycle that began in `s`: what a SHOW reads is as it was, and the picks,
the bus answers and the events are these. -/
structure AtEntry (s : State) (ix : BitVec 2) (picks : List Pick) (bus : List BusAnswer) (events : List Event)
    (t : State) : Prop where
  cfg : t.cfg = s.cfg
  mem : t.mem = s.mem
  cycle : t.cycle = s.cycle
  gs : t.gs = s.gs
  run : t.run = true
  phase : t.phase = phaseFetch
  stopReq : t.stopReq = false
  stepIx : t.stepIx = ix
  srcLegal : t.curSrc ≠ 3#2
  picks : t.env.picks = picks
  bus : t.env.bus = bus
  trace : t.trace = s.trace ++ events

variable {s t : State} {ix : BitVec 2} {picks : List Pick} {bus : List BusAnswer} {events : List Event}

theorem Env.takePick_of_cons {e : Env} {pick : Pick} {rest : List Pick} (h : e.picks = pick :: rest) :
    e.takePick = { e with picks := rest } := by
  simp [Env.takePick, h]

namespace AtEntry

/-- The entry that the engine is at is that of the plan at `ix` (R161). -/
theorem planEntry (h : AtEntry s ix picks bus events t) : t.planEntry = { s with stepIx := ix }.planEntry := by
  simp only [State.planEntry, State.planWord, State.clippedStep, State.plan, h.cfg, h.gs, h.stepIx]

/-- A pick of a whole sub-frame step makes the entry's SHOW and goes on to the next entry (R160, R163). -/
theorem step_subframe {src : Buf} {num den : BitVec 7}
    (h : AtEntry s ix (.subframe :: picks) (.ok :: .ok :: .ok :: bus) events t) (hix : ix ≠ 3#2)
    (hentry : { s with stepIx := ix }.planEntry = some (src, num, den)) {next : BitVec 2}
    (hnext : BitVec.ofNat 2 (({ s with stepIx := ix }.clippedStep.toNat + 1) % s.plan.length) = next) :
    ∃ u, step t = .next u ∧ AtEntry s next picks bus (events ++ showEvents s src num den) u := by
  have hpick : t.nextPick = .subframe := by simp [State.nextPick, h.picks]
  have hwhole : t.planEntry = some (src, num, den) := h.planEntry.trans hentry
  have hfraction := planEntry_wellFormed t src num den hwhole
  have henv := Env.takePick_of_cons h.picks
  have hbus : t.takePick.env.bus = .ok :: .ok :: .ok :: bus := by
    rw [State.takePick_env, henv]
    exact h.bus
  have hshow := (errorFreeShow t.takePick src num den h.run h.phase (h.stepIx ▸ hix) h.srcLegal hfraction).2
    h.stopReq bus hbus
  rw [step_of_run (nextMove_subframe_show hpick h.run h.phase hwhole), hshow]
  refine ⟨_, rfl, ?_⟩
  have hframe : t.takePick.frameOf src = s.frameOf src := frameOf_congr h.mem h.cfg src
  exact {
    cfg := h.cfg
    mem := h.mem
    cycle := h.cycle
    gs := h.gs
    run := h.run
    phase := h.phase
    stopReq := h.stopReq
    stepIx := by
      simp only [← hnext, State.clippedStep, State.plan, State.takePick_cfg, State.takePick_gs, State.takePick_stepIx,
        h.cfg, h.gs, h.stepIx]
    srcLegal := bufCode_legal src
    picks := by simp only [State.takePick_env, henv]
    bus := rfl
    trace := by
      simp only [hframe, showEvents, State.takePick_cfg, State.takePick_cycle, State.takePick_trace, h.cfg, h.cycle,
        h.trace, List.append_assoc] }

end AtEntry

/-! ### The default grayscale plan -/

theorem plan_default (hcfg : s.cfg = Config.default) (hgs : s.gs = true) (ix : BitVec 2) :
    { s with stepIx := ix }.plan = Config.default.planGs := by
  simp only [State.plan, hcfg, hgs, if_true]

/-- Its three entries (R167). -/
theorem planEntry_default (hcfg : s.cfg = Config.default) (hgs : s.gs = true) :
    { s with stepIx := 0#2 }.planEntry = some (.a, 1#7, 2#7) ∧ { s with stepIx := 1#2 }.planEntry = some (.b, 1#7, 4#7) ∧
      { s with stepIx := 2#2 }.planEntry = some (.c, 1#7, 4#7) := by
  simp only [State.planEntry, State.planWord, State.clippedStep, plan_default hcfg hgs]
  exact ⟨rfl, rfl, rfl⟩

/-- The entry after entry `ix` of a cycle in the default plan (R163). -/
theorem nextEntry_default (hcfg : s.cfg = Config.default) (hgs : s.gs = true) {ix next : BitVec 2} (hix : ix.toNat < 3)
    (hnext : BitVec.ofNat 2 ((ix.toNat + 1) % 3) = next) :
    BitVec.ofNat 2 (({ s with stepIx := ix }.clippedStep.toNat + 1) % s.plan.length) = next := by
  have hlength : Config.default.planGs.length = 3 := rfl
  have hplan : s.plan = Config.default.planGs := plan_default hcfg hgs s.stepIx
  rw [State.clippedStep, plan_default hcfg hgs, hplan, hlength, if_neg (Nat.not_le.2 hix), hnext]

/-- The fifteen events of R170. -/
theorem cycleEvents_default (hcfg : s.cfg = Config.default) :
    showEvents s .a 1#7 2#7 ++ showEvents s .b 1#7 4#7 ++ showEvents s .c 1#7 4#7 =
      [.cmd [0xA8#8, 0x00#8], .wait (8 * s.cycle.toNat / 192), .data (s.frameOf .a), .cmd [0xA8#8, 0x38#8],
       .wait (s.cycle.toNat / 2),
       .cmd [0xA8#8, 0x00#8], .wait (8 * s.cycle.toNat / 192), .data (s.frameOf .b), .cmd [0xA8#8, 0x38#8],
       .wait (s.cycle.toNat / 4),
       .cmd [0xA8#8, 0x00#8], .wait (8 * s.cycle.toNat / 192), .data (s.frameOf .c), .cmd [0xA8#8, 0x38#8],
       .wait (s.cycle.toNat / 4)] := by
  have hexpose (den : BitVec 7) : expose s.cycle 1#7 den = s.cycle.toNat / den.toNat := by
    simp [expose]
  simp only [showEvents, hcfg, hexpose]
  rfl

end Sys2Proof.Machine

open Sys2Proof Sys2Proof.Machine

/-- Settles O42: three SHOWs from entry 0, each at the next entry of the default plan. -/
theorem oneGrayscaleCycle : Obligations.OneGrayscaleCycle := by
  intro s rest hs hcfg hrun hphase hgs hstep hstop hbus
  have hstart : AtEntry s 0#2 (List.replicate 3 .subframe ++ s.env.picks) (List.replicate 9 .ok ++ rest) []
      (s.scheduling .subframe 3) :=
    ⟨rfl, rfl, rfl, rfl, hrun, hphase, hstop, hstep, hs.srcLegal, rfl, hbus, (List.append_nil _).symm⟩
  obtain ⟨hentryA, hentryB, hentryC⟩ := planEntry_default hcfg hgs
  obtain ⟨t, hshowA, ht⟩ := hstart.step_subframe (by decide) hentryA (nextEntry_default hcfg hgs (by decide) rfl)
  obtain ⟨u, hshowB, hu⟩ := ht.step_subframe (by decide) hentryB (nextEntry_default hcfg hgs (by decide) rfl)
  obtain ⟨v, hshowC, hv⟩ := hu.step_subframe (by decide) hentryC (nextEntry_default hcfg hgs (by decide) rfl)
  have hrun3 : runSteps 3 (s.scheduling .subframe 3) = .next v := by
    simp only [runSteps, hshowA, hshowB, hshowC]
  refine ⟨v, hrun3, ?_, hv.stepIx, hv.phase, hv.run, hv.bus⟩
  rw [hv.trace, List.nil_append, cycleEvents_default hcfg]

end

section
/-!
SUPPORT. O26 to O28: RESOLVE, WRBYTE and RDBYTE, each by the branch of its meaning that is taken, and what a byte written
through the state leaves to be read.
-/

namespace Sys2Proof.Machine

variable {s : State}

/-- What is read after a byte is written (R66). -/
theorem memRead_store {a : Nat} (v : Byte) (ha : a < 3 * s.cfg.frameBytes) (hwf : s.mem.wf) :
    (s.withMem (s.mem.store a v)).memRead a = some v ∧
      ∀ b, b ≠ a → (s.withMem (s.mem.store a v)).memRead b = s.memRead b := by
  obtain ⟨hsame, hother, _⟩ := readAfterWrite s _ a v hwf (memWrite_of_lt v ha)
  exact ⟨hsame, hother⟩

/-- The four cases of the colour table are its entries at `2*bitA + bitB` (R11, R123). -/
theorem resolveLevel_eq_getD (c : Config) (bitA bitB : Bool) :
    resolveLevel c bitA bitB = c.resolveLut.toList.getD (2 * bitA.toNat + bitB.toNat) .black := by
  cases bitA <;> cases bitB <;> simp [resolveLevel]

/-- In the default table each level stands at its own code (R11, R108). -/
theorem grayCode_default (bitA bitB : Bool) :
    grayCode (Config.default.resolveLut.toList.getD (2 * bitA.toNat + bitB.toNat) .black) =
      BitVec.ofNat 32 (2 * bitA.toNat + bitB.toNat) := by
  cases bitA <;> cases bitB <;> rfl

theorem exec_resolve (bitA bitB : Bool) (hcap : s.capErr = false) :
    exec (.resolve bitA bitB) s =
      .next (s.respond .ok (grayCode (s.cfg.resolveLut.toList.getD (2 * bitA.toNat + bitB.toNat) .black))) := by
  rw [← resolveLevel_eq_getD]
  exact capGuard_of_capable s _ hcap

theorem exec_wrbyte_refused {buf : Buf} {index : BitVec 14} (value : Byte) (hcap : s.capErr = false)
    (h : buf = .c ∨ s.cfg.frameBytes ≤ index.toNat) :
    exec (.wrbyte buf index value) s = .next (s.respond .precond 0#32) :=
  (capGuard_of_capable s _ hcap).trans (if_pos h)

theorem exec_wrbyte_writes {buf : Buf} {index : BitVec 14} (value : Byte) (hcap : s.capErr = false) (hbuf : buf ≠ .c)
    (hindex : index.toNat < s.cfg.frameBytes) :
    exec (.wrbyte buf index value) s =
      .next ((s.withMem (s.mem.store (bufAddr s.cfg (bufNumber buf) index.toNat) value)).respond .ok 0#32) := by
  have hallowed : ¬(buf = .c ∨ s.cfg.frameBytes ≤ index.toNat) := not_or.2 ⟨hbuf, Nat.not_le.2 hindex⟩
  simp only [exec, execWrbyte, capGuard_of_capable s _ hcap, if_neg hallowed,
    memWrite_of_lt value (bufAddr_lt (bufNumber_lt buf) hindex), orNoSuchAddress]

theorem exec_rdbyte_refused {buf : Buf} {index : BitVec 14} (hcap : s.capErr = false)
    (h : s.cfg.frameBytes ≤ index.toNat) : exec (.rdbyte buf index) s = .next (s.respond .precond 0#32) :=
  (capGuard_of_capable s _ hcap).trans (if_pos h)

theorem exec_rdbyte_reads {buf : Buf} {index : BitVec 14} (hcap : s.capErr = false)
    (hindex : index.toNat < s.cfg.frameBytes) :
    exec (.rdbyte buf index) s = .next (s.respond .ok ((s.bufByte buf index.toNat).setWidth 32)) := by
  simp only [exec, execRdbyte, capGuard_of_capable s _ hcap, if_neg (Nat.not_le.2 hindex),
    memRead_of_lt (bufAddr_lt (bufNumber_lt buf) hindex), orNoSuchAddress, State.bufByte]

end Sys2Proof.Machine

open Sys2Proof.Machine

/-- Settles O26: the pure function of the two bits is the table's entry. -/
theorem resolveLooksUpTheTable : Obligations.ResolveLooksUpTheTable := by
  refine ⟨rfl, fun s bitA bitB hcap => exec_resolve bitA bitB hcap, fun s bitA bitB hcap hlut => ?_⟩
  rw [exec_resolve bitA bitB hcap, hlut, grayCode_default]
  rfl

/-- Settles O27: the refusal, and the one write. -/
theorem wrbyteWritesOneByte : Obligations.WrbyteWritesOneByte := by
  refine ⟨rfl, fun s buf index value hcap => ⟨fun h => exec_wrbyte_refused value hcap h, fun hbuf hindex hwf => ?_⟩⟩
  obtain ⟨hsame, hother⟩ := memRead_store value (bufAddr_lt (bufNumber_lt buf) hindex) hwf
  exact ⟨_, exec_wrbyte_writes value hcap hbuf hindex, hsame, hother, rfl⟩

/-- Settles O28: the refusal, and the one read. -/
theorem rdbyteReadsOneByte : Obligations.RdbyteReadsOneByte :=
  ⟨rfl, fun s buf _ hcap => ⟨exec_rdbyte_refused hcap, fun hindex =>
    ⟨s.bufByte buf _, memRead_of_lt (bufAddr_lt (bufNumber_lt buf) hindex), exec_rdbyte_reads hcap hindex⟩⟩⟩

end

section
/-!
SUPPORT. O20: SETPX. A pixel is one lane of one byte, and no two pixels share a lane.
-/

namespace Sys2Proof.Machine

variable {s : State}

/-! ### Where a pixel lies -/

theorem mul_add_inj {n a i b j : Nat} (hi : i < n) (hj : j < n) (h : a * n + i = b * n + j) : a = b ∧ i = j := by
  have split (k l : Nat) (hl : l < n) : (k * n + l) / n = k ∧ (k * n + l) % n = l :=
    (Nat.div_mod_unique (Nat.zero_lt_of_lt hl)).2 ⟨by rw [Nat.mul_comm, Nat.add_comm], hl⟩
  obtain ⟨hdiv, hmod⟩ := split a i hi
  obtain ⟨hdiv', hmod'⟩ := split b j hj
  exact ⟨by rw [← hdiv, h, hdiv'], by rw [← hmod, h, hmod']⟩

/-- Two buffer bytes at one address are one byte (R61). -/
theorem bufAddr_inj {c : Config} {b i b' i' : Nat} (hi : i < c.frameBytes) (hi' : i' < c.frameBytes)
    (h : bufAddr c b i = bufAddr c b' i') : b = b' ∧ i = i' :=
  mul_add_inj hi hi' h

/-- Two pixels of one byte are in one column and one page (R62). -/
theorem pixelIndex_inj {c : Config} {x y x' y' : Nat} (hx : x < c.w) (hx' : x' < c.w)
    (h : pixelIndex c x y = pixelIndex c x' y') : y / 8 = y' / 8 ∧ x = x' :=
  mul_add_inj hx hx' h

theorem bufNumber_inj : ∀ {buf buf' : Buf}, bufNumber buf = bufNumber buf' → buf = buf'
  | .a, .a, _ => rfl
  | .b, .b, _ => rfl
  | .c, .c, _ => rfl

theorem bufNumber_layerBuf (layer : Layer) : bufNumber (layerBuf layer) = layerNumber layer := by cases layer <;> rfl

/-- The address of the byte that holds a layer's pixel. -/
def pixelAddr (c : Config) (layer : Layer) (x y : Nat) : Nat := bufAddr c (layerNumber layer) (pixelIndex c x y)

/-- A pixel of any buffer at that address is of this layer, column and page (R61, R62). -/
theorem eq_of_bufAddr_eq_pixelAddr {c : Config} {layer : Layer} {buf : Buf} {x y x' y' : Nat} (hh : c.h % 8 = 0)
    (hx : x < c.w) (hy : y < c.h) (hx' : x' < c.w) (hy' : y' < c.h)
    (h : bufAddr c (bufNumber buf) (pixelIndex c x' y') = pixelAddr c layer x y) :
    buf = layerBuf layer ∧ x' = x ∧ y' / 8 = y / 8 := by
  obtain ⟨hbuf, hindex⟩ := bufAddr_inj (pixelIndex_lt hh hx' hy') (pixelIndex_lt hh hx hy) h
  obtain ⟨hpage, hcol⟩ := pixelIndex_inj hx' hx hindex
  exact ⟨bufNumber_inj (hbuf.trans (bufNumber_layerBuf layer).symm), hcol, hpage⟩

theorem pixelAddr_lt {c : Config} (layer : Layer) {x y : Nat} (hh : c.h % 8 = 0) (hx : x < c.w) (hy : y < c.h) :
    pixelAddr c layer x y < 3 * c.frameBytes :=
  bufAddr_lt (Nat.lt_succ_of_lt (layerNumber_lt layer)) (pixelIndex_lt hh hx hy)

/-! ### The lanes of a byte -/

theorem pixelMask_getLsbD (y k : Nat) : (pixelMask y).getLsbD k = decide (k = y % 8) := by
  have hlane : y % 8 < 8 := Nat.mod_lt _ (by decide)
  simp only [pixelMask, BitVec.getLsbD_shiftLeft, BitVec.getLsbD_one]
  grind

/-- The lane of row `y` takes the bit, the other seven are kept (R120, R126). -/
theorem setLane_getLsbD (old : Byte) (y : Nat) (bit : Bool) {k : Nat} (hk : k < 8) :
    (setLane old y bit).getLsbD k = if k = y % 8 then bit else old.getLsbD k := by
  cases bit
  case false =>
    have hclear : (setLane old y false).getLsbD k = (old.getLsbD k && !decide (k = y % 8)) := by
      simp only [setLane, Bool.false_eq_true, if_false, BitVec.getLsbD_and, BitVec.getLsbD_not, pixelMask_getLsbD, hk,
        decide_true, Bool.true_and]
    rw [hclear]
    split <;> simp [*]
  case true =>
    have hset : (setLane old y true).getLsbD k = (old.getLsbD k || decide (k = y % 8)) := by
      simp only [setLane, if_true, BitVec.getLsbD_or, pixelMask_getLsbD]
    rw [hset]
    split <;> simp [*]

/-! ### The command -/

theorem exec_setpx_refused {layer : Layer} {x y : BitVec 8} (bit : Bool) (hcap : s.capErr = false)
    (h : s.cfg.w ≤ x.toNat ∨ s.cfg.h ≤ y.toNat) :
    exec (.setpx layer x y bit) s = .next (s.respond .precond 0#32) :=
  (capGuard_of_capable s _ hcap).trans (if_pos h)

/-- The memory after SETPX has set the pixel: its byte read, one lane changed, and written back. -/
def State.setpxMem (s : State) (layer : Layer) (x y : Nat) (bit : Bool) : Memory :=
  s.mem.store (pixelAddr s.cfg layer x y) (setLane (s.mem.byteAt (pixelAddr s.cfg layer x y)) y bit)

theorem exec_setpx_sets (layer : Layer) {x y : BitVec 8} (bit : Bool) (hcap : s.capErr = false)
    (hx : x.toNat < s.cfg.w) (hy : y.toNat < s.cfg.h) (hh : s.cfg.h % 8 = 0) :
    exec (.setpx layer x y bit) s = .next ((s.withMem (s.setpxMem layer x.toNat y.toNat bit)).respond .ok 0#32) := by
  have haddr : bufAddr s.cfg (layerNumber layer) (pixelIndex s.cfg x.toNat y.toNat) < 3 * s.cfg.frameBytes :=
    pixelAddr_lt layer hh hx hy
  have hbounds : ¬(s.cfg.w ≤ x.toNat ∨ s.cfg.h ≤ y.toNat) := not_or.2 ⟨Nat.not_le.2 hx, Nat.not_le.2 hy⟩
  simp only [exec, execSetpx, capGuard_of_capable s _ hcap, if_neg hbounds, memRead_of_lt haddr, memWrite_of_lt _ haddr,
    orNoSuchAddress, State.setpxMem, pixelAddr]

/-- Every pixel on the display after SETPX: the one addressed reads as the bit, any other as before. -/
theorem pixel_setpx (layer : Layer) {x y : Nat} (bit : Bool) (hh : s.cfg.h % 8 = 0) (hwf : s.mem.wf) (hx : x < s.cfg.w)
    (hy : y < s.cfg.h) {buf : Buf} {x' y' : Nat} (hx' : x' < s.cfg.w) (hy' : y' < s.cfg.h) :
    (s.withMem (s.setpxMem layer x y bit)).pixel buf x' y' =
      if buf = layerBuf layer ∧ x' = x ∧ y' = y then bit else s.pixel buf x' y' := by
  simp only [State.pixel, State.bufByte, State.withMem_cfg, State.withMem_mem, State.setpxMem]
  by_cases hbyte : bufAddr s.cfg (bufNumber buf) (pixelIndex s.cfg x' y') = pixelAddr s.cfg layer x y
  · obtain ⟨hbuf, hcol, hpage⟩ := eq_of_bufAddr_eq_pixelAddr hh hx hy hx' hy' hbyte
    have hlane : y' % 8 = y % 8 ↔ y' = y := by omega
    rw [hbyte, Memory.byteAt_store_same _ _ _ hwf.1, setLane_getLsbD _ _ _ (Nat.mod_lt _ (by decide))]
    simp only [hlane, hbuf, hcol, true_and]
  · have hother : ¬(buf = layerBuf layer ∧ x' = x ∧ y' = y) := by
      rintro ⟨rfl, rfl, rfl⟩
      exact hbyte (by rw [bufNumber_layerBuf, pixelAddr])
    rw [Memory.byteAt_store_other _ _ _ _ hbyte, if_neg hother]

end Sys2Proof.Machine

open Sys2Proof.Machine

/-- Settles O20: the refusal; else one byte written, of which one lane changes. -/
theorem setpxChangesOnePixel : Obligations.SetpxChangesOnePixel := by
  refine ⟨rfl, fun s layer x y bit hcap =>
    ⟨fun h => exec_setpx_refused bit hcap h, fun hx hy hh hwf =>
      ⟨_, exec_setpx_sets layer bit hcap hx hy hh, rfl, ?_, ?_, fun buf x' y' hx' hy' hother => ?_⟩⟩⟩
  · have haddr := pixelAddr_lt layer hh hx hy
    obtain ⟨hsame, hkept⟩ := memRead_store (setLane (s.mem.byteAt _) y.toNat bit) haddr hwf
    exact ⟨hsame.trans (by rw [← pixelAddr, memRead_of_lt haddr]; rfl), hkept⟩
  · exact (pixel_setpx layer bit hh hwf hx hy hx hy).trans (if_pos ⟨rfl, rfl, rfl⟩)
  · exact (pixel_setpx layer bit hh hwf hx hy hx' hy').trans (if_neg hother)

end

section
/-!
SUPPORT. O22, O24: a FILL or DERIVE that only host micro-steps follow. Each works through one buffer and writes byte `i` in
micro-step `i`, so both are one run of `N` micro-steps that leaves a buffer written from end to end.
-/

namespace Sys2Proof.Machine

variable {s u : State} {b : Nat} {f : Nat → Byte} {hop : Nat → Hop} {rest : List Word}

/-! ### A buffer written from its first byte on -/

/-- The memory with the bytes 0 to `n - 1` of buffer `b` written, byte `i` with `f i`. -/
def State.written (s : State) (b : Nat) (f : Nat → Byte) : Nat → Memory
  | 0 => s.mem
  | n + 1 => (s.written b f n).store (bufAddr s.cfg b n) (f n)

theorem written_wf (hwf : s.mem.wf) : ∀ n, (s.written b f n).wf
  | 0 => hwf
  | n + 1 => Memory.store_wf _ _ _ (written_wf hwf n)

theorem byteAt_written_below (hwf : s.mem.wf) : ∀ (n : Nat) {i : Nat}, i < n →
    (s.written b f n).byteAt (bufAddr s.cfg b i) = f i
  | n + 1, i, hi => by
    obtain hlt | rfl := Nat.lt_succ_iff_lt_or_eq.1 hi
    · have hne : bufAddr s.cfg b i ≠ bufAddr s.cfg b n := by simp only [bufAddr]; omega
      exact (Memory.byteAt_store_other _ _ _ _ hne).trans (byteAt_written_below hwf n hlt)
    · exact Memory.byteAt_store_same _ _ _ (written_wf hwf i).1

theorem byteAt_written_other {a : Nat} : ∀ n, (∀ i, i < n → a ≠ bufAddr s.cfg b i) →
    (s.written b f n).byteAt a = s.mem.byteAt a
  | 0, _ => rfl
  | n + 1, h => (Memory.byteAt_store_other _ _ _ _ (h n n.lt_succ_self)).trans
      (byteAt_written_other n fun i hi => h i (Nat.lt_succ_of_lt hi))

/-- The bytes outside the `N` addresses of the buffer are kept (R61). -/
theorem byteAt_written_outside {a : Nat} (h : ¬(b * s.cfg.frameBytes ≤ a ∧ a < (b + 1) * s.cfg.frameBytes)) :
    (s.written b f s.cfg.frameBytes).byteAt a = s.mem.byteAt a :=
  byteAt_written_other _ fun i hi heq => by
    rw [Nat.succ_mul] at h
    simp only [bufAddr] at heq
    omega

/-! ### The run of a command that works through a buffer -/

/-- Micro-step `i` made: the bytes to `i` written, and the port moved on, or the command answered (R34). `k` host
micro-steps are still to come. -/
def State.afterByte (u : State) (b : Nat) (f : Nat → Byte) (hop : Nat → Hop) (i k : Nat) : State :=
  ((u.withMem (u.written b f (i + 1))).scheduling .host k).finishAt i (hop (i + 1))

/-- The port held before micro-step `i`, with the bytes below `i` written. -/
def State.beforeByte (u : State) (b : Nat) (f : Nat → Byte) (hop : Nat → Hop) (i k : Nat) : State :=
  ((u.withMem (u.written b f i)).withHop (hop i)).scheduling .host k

/-- The command answered: the whole buffer written and the port free. -/
def State.completed (u : State) (b : Nat) (f : Nat → Byte) : State :=
  ((u.withMem (u.written b f u.cfg.frameBytes)).withHop .none).respond .ok 0#32

theorem afterByte_more {i : Nat} (k : Nat) (hi : i + 1 < u.cfg.frameBytes) :
    u.afterByte b f hop i k = u.beforeByte b f hop (i + 1) k :=
  if_pos hi

theorem afterByte_last {i : Nat} (hi : i + 1 = u.cfg.frameBytes) : u.afterByte b f hop i 0 = u.completed b f := by
  rw [State.completed, ← hi]
  exact if_neg (by exact Nat.not_lt.2 hi.ge)

theorem runSteps_succ {t : State} (k : Nat) (h : step s = .next t) : runSteps (k + 1) s = runSteps k t := by
  simp only [runSteps, h]

/-- The micro-steps after micro-step `i` complete the command, `k` being those left. -/
theorem runSteps_afterByte
    (hstep : ∀ i k, i < u.cfg.frameBytes →
      step (u.beforeByte b f hop i (k + 1)) = .next (u.afterByte b f hop i k)) :
    ∀ k i, i + 1 + k = u.cfg.frameBytes → runSteps k (u.afterByte b f hop i k) = .next (u.completed b f)
  | 0, i, hleft => congrArg _ (afterByte_last hleft)
  | k + 1, i, hleft => by
    rw [afterByte_more (k + 1) (by omega), runSteps_succ k (hstep (i + 1) k (by omega))]
    exact runSteps_afterByte hstep k (i + 1) (by omega)

/-- A command whose accepting micro-step writes byte 0 and whose continuations write the bytes after it completes in
exactly `N` host micro-steps. -/
theorem runSteps_command {w : Word} {i : Instr} (hhop : s.hop = .none) (hpos : 0 < s.cfg.frameBytes)
    (hwords : s.env.words = w :: rest) (hdecode : decodeCommand w = .ok i)
    (haccept : ∀ k, exec i ((s.acceptWord rest).scheduling .host k) =
      .next ((s.acceptWord rest).afterByte b f hop 0 k))
    (hstep : ∀ i k, i < s.cfg.frameBytes →
      step ((s.acceptWord rest).beforeByte b f hop i (k + 1)) = .next ((s.acceptWord rest).afterByte b f hop i k)) :
    runSteps s.cfg.frameBytes (s.scheduling .host s.cfg.frameBytes) = .next ((s.acceptWord rest).completed b f) := by
  obtain ⟨k, hk⟩ := Nat.exists_eq_add_one.2 hpos
  have hfirst : step (s.scheduling .host (k + 1)) = .next ((s.acceptWord rest).afterByte b f hop 0 k) :=
    (step_of_run (nextMove_host_decodes (s := s.scheduling .host (k + 1)) rfl hhop hwords hdecode)).trans (haccept k)
  rw [hk, runSteps_succ k hfirst]
  exact runSteps_afterByte (u := s.acceptWord rest) hstep k 0 (by rw [State.acceptWord_cfg, hk]; omega)

/-! ### What the completed command leaves -/

theorem completed_bufByte (hwf : s.mem.wf) {buf : Buf} {i : Nat} (hi : i < s.cfg.frameBytes) :
    ((s.acceptWord rest).completed (bufNumber buf) f).bufByte buf i = f i :=
  byteAt_written_below (s := s.acceptWord rest) hwf _ hi

theorem completed_memRead_outside {a : Nat} (h : ¬(b * s.cfg.frameBytes ≤ a ∧ a < (b + 1) * s.cfg.frameBytes)) :
    ((s.acceptWord rest).completed b f).memRead a = s.memRead a :=
  congrArg (fun v => if a < 3 * s.cfg.frameBytes then some v else none)
    (byteAt_written_outside (s := s.acceptWord rest) h)

theorem completed_eq_but_mem (hhop : s.hop = .none) :
    { (s.acceptWord rest).completed b f with mem := s.mem } =
      { s with env := { s.env with words := rest }, resp := s.resp ++ [⟨0#8, 0#32⟩] } := by
  simp only [State.completed, State.respond, State.withHop, State.withMem, State.acceptWord, hhop, causeNumber]

/-! ### FILL and DERIVE -/

theorem exec_fill_scheduled (layer : Layer) (bit : Bool) (hcap : u.capErr = false) (hpos : 0 < u.cfg.frameBytes)
    (k : Nat) :
    exec (.fill layer bit) (u.scheduling .host k) =
      .next (u.afterByte (layerNumber layer) (fun _ => fillByte bit) (.fill layer (fillByte bit)) 0 k) :=
  exec_fill_accept (s := u.scheduling .host k) layer bit hcap hpos

theorem step_fill_beforeByte (layer : Layer) (v : Byte) {i : Nat} (k : Nat) (hi : i < u.cfg.frameBytes) :
    step (u.beforeByte (layerNumber layer) (fun _ => v) (.fill layer v) i (k + 1)) =
      .next (u.afterByte (layerNumber layer) (fun _ => v) (.fill layer v) i k) :=
  (step_host_fill rfl rfl).trans (fillMicroStep_of_lt layer v hi)

/-- What DERIVE writes at index `i` (R122). -/
def State.derived (s : State) (i : Nat) : Byte := s.bufByte .a i &&& s.bufByte .b i

/-- Writing Combined leaves the layers, so what DERIVE writes does not change under way (R61, R122). -/
theorem derived_written {i : Nat} (n : Nat) (hi : i < u.cfg.frameBytes) :
    (u.withMem (u.written 2 f n)).derived i = u.derived i := by
  have hlayer (layer : Layer) : (u.written 2 f n).byteAt (bufAddr u.cfg (layerNumber layer) i) =
      u.mem.byteAt (bufAddr u.cfg (layerNumber layer) i) :=
    byteAt_written_other n fun j _ => bufAddr_layer_ne_combined layer j hi
  exact congrArg₂ (· &&& ·) (hlayer .a) (hlayer .b)

theorem exec_derive_scheduled (hcap : u.capErr = false) (hpos : 0 < u.cfg.frameBytes) (k : Nat) :
    exec .derive (u.scheduling .host k) = .next (u.afterByte 2 u.derived .derive 0 k) :=
  exec_derive_accept (s := u.scheduling .host k) hcap hpos

theorem step_derive_beforeByte {i : Nat} (k : Nat) (hi : i < u.cfg.frameBytes) :
    step (u.beforeByte 2 u.derived .derive i (k + 1)) = .next (u.afterByte 2 u.derived .derive i k) := by
  have hmicro := deriveMicroStep_of_lt (s := u.beforeByte 2 u.derived .derive i k) hi
  rw [← State.derived, show (u.beforeByte 2 u.derived .derive i k).derived i = _ from derived_written i hi] at hmicro
  exact (step_host_derive rfl rfl).trans hmicro

end Sys2Proof.Machine

open Sys2Proof Sys2Proof.Machine

/-- Settles O22: a run of `N` micro-steps that writes the layer with one byte. -/
theorem fillCompletesInNMicroSteps : Obligations.FillCompletesInNMicroSteps := by
  intro s layer bit w rest hcap hhop hpos hwf hwords hdecode
  refine ⟨_, runSteps_command hhop hpos hwords hdecode (exec_fill_scheduled layer bit hcap hpos)
    fun _ k hi => step_fill_beforeByte layer (fillByte bit) k hi, fun i hi => ?_,
    fun _ ha => completed_memRead_outside ha, completed_eq_but_mem hhop⟩
  rw [← bufNumber_layerBuf, completed_bufByte hwf hi, fillByte]

/-- Settles O24: a run of `N` micro-steps that writes Combined from the layers, which it leaves as they are. -/
theorem deriveCompletesInNMicroSteps : Obligations.DeriveCompletesInNMicroSteps := by
  refine ⟨rfl, fun s rest hcap hhop hpos hwf hwords => ?_⟩
  have hcombined (i : Nat) (hi : i < s.cfg.frameBytes) :
      ((s.acceptWord rest).completed 2 s.derived).bufByte .c i = s.derived i :=
    completed_bufByte (buf := .c) hwf hi
  exact ⟨_, runSteps_command hhop hpos hwords rfl (exec_derive_scheduled hcap hpos)
      fun _ k hi => step_derive_beforeByte k hi,
    hcombined, fun _ ha => completed_memRead_outside ha,
    fun i hi => (hcombined i hi).trans (derived_written (u := s.acceptWord rest) _ hi).symm, completed_eq_but_mem hhop⟩

end

section
/-!
SUPPORT. O34, O35: a LOAD micro-step reads one byte while `LIDX` is below `N`, then makes its one bus call.
-/

namespace Sys2Proof.Machine

variable {s : State}

/-- A read micro-step of LOAD reads a byte that exists (R61, R142). -/
theorem execLoad_reads (hrun : s.run = true) (hphase : s.phase = phaseLoad) (hreg : s.reservedRegs = false)
    (hindex : s.lidx < s.cfg.frameBytes) (haddr : s.loadAddr < 3 * s.cfg.frameBytes) :
    execLoad s = .next (readEffect s) :=
  microOp_at hrun hphase hreg <| by
    rw [if_neg (Nat.not_lt.2 hindex.le), if_pos hindex, memRead_of_lt haddr]
    rfl

/-- Past the last byte LOAD transmits (R143). -/
theorem execLoad_transmits (hrun : s.run = true) (hphase : s.phase = phaseLoad) (hreg : s.reservedRegs = false)
    (hindex : s.lidx = s.cfg.frameBytes) : execLoad s = .next (transmitEffect s) :=
  microOp_at hrun hphase hreg <| by rw [hindex, if_neg (Nat.lt_irrefl _), if_neg (Nat.lt_irrefl _)]

end Sys2Proof.Machine

open Sys2Proof Sys2Proof.Machine

/-- Settles O34: the byte read is that at the mux's address, which exists. -/
theorem loadReadsOneByte : Obligations.LoadReadsOneByte := by
  intro s hrun hphase hstep hsrc hindex
  have haddr := loadAddr_lt hsrc hindex
  exact ⟨_, memRead_of_lt haddr, execLoad_reads hrun hphase (reservedRegs_eq_false hstep hsrc) hindex haddr⟩

/-- Settles O35: with `LIDX = N` LOAD is its one bus call. -/
theorem loadTransmitsTheFrame : Obligations.LoadTransmitsTheFrame := by
  intro s hrun hphase hstep hsrc hindex
  have hload : exec .load s = .next (transmitEffect s) :=
    execLoad_transmits hrun hphase (reservedRegs_eq_false hstep hsrc) hindex
  rw [hload]
  refine ⟨fun hbus => ?_, fun hbus => ?_⟩
  · simp only [transmitEffect, busCall, hbus]
    rfl
  · simp only [transmitEffect, busCall, hbus]
    rfl

end

section
/-!
SUPPORT. O44: with a call that never returns in flight, a step of the engine only uses up its pick, and a step of the
host leaves both what is outside its reach and the engine's position; whether a call hangs is a matter of these alone.
-/

namespace Sys2Proof.Machine

variable {s t : State}

/-- Where the engine can be at a bus call: in which phases, and in LOAD at which index (R141, R143, R144). -/
theorem atBusCall_iff : s.atBusCall = true ↔ s.run = true ∧
    (s.phase = phasePark ∨ s.phase = phaseUnpark ∨ s.phase = phaseLoad ∧ s.lidx = s.cfg.frameBytes) := by
  simp [State.atBusCall, or_assoc]

@[simp] theorem State.takePick_nextBus (s : State) : s.takePick.nextBus = s.nextBus := by
  cases h : s.env.picks <;> simp [State.nextBus, State.takePick, Env.takePick, h]

/-- No effect of the engine gets past a call that never returns (R238). -/
theorem EngineEffect.eq_of_hung (h : EngineEffect s t) (hcall : s.atBusCall = true) (hbus : s.nextBus = .never) :
    t = s := by
  obtain ⟨_, hat⟩ := atBusCall_iff.1 hcall
  cases h with
  | hung => rfl
  | read _ hphase hindex =>
    have hfull : s.lidx = s.cfg.frameBytes := by simpa [hphase, phaseLoad, phasePark, phaseUnpark] using hat
    omega
  | exit _ hphase | latch _ _ _ _ hphase | waited _ hphase | exposed _ hphase =>
    simp [hphase, phaseFetch, phasePark, phasePwait, phaseLoad, phaseUnpark, phaseXwait] at hat
  | parked _ _ hok | sent _ _ _ hok | unparked _ _ hok => simp [hbus] at hok
  | parkFailed _ _ herr | sendFailed _ _ _ herr | unparkFailed _ _ herr => simp [hbus] at herr

theorem EngineStep.eq_of_hung (h : EngineStep s t) (hcall : s.atBusCall = true) (hbus : s.nextBus = .never) :
    t = s := by
  cases h with
  | none => rfl
  | one heffect => exact heffect.eq_of_hung hcall hbus
  | whole _ _ _ _ hphase =>
    obtain ⟨_, hat⟩ := atBusCall_iff.1 hcall
    simp [hphase, phaseFetch, phasePark, phaseLoad, phaseUnpark] at hat

/-- START moves the engine only from STOPPED (R210), so while it runs no command does. -/
theorem CommandEffect.position_of_run {i : Instr} (h : CommandEffect s i t) (hrun : s.run = true) :
    t.position = s.position := by
  cases h with
  | launch _ hstopped => simp [hrun] at hstopped
  | commit => exact commitCycle_position s
  | fill _ _ _ hstep => exact hstep.position
  | derive _ hstep => exact hstep.position
  | _ => rfl

theorem HostStep.position_of_run (h : HostStep s t) (hrun : s.run = true) : t.position = s.position := by
  cases h with
  | command _ _ _ _ heffect => exact heffect.position_of_run hrun
  | fill _ _ _ _ hstep => exact hstep.position
  | derive _ _ hstep => exact hstep.position
  | _ => rfl

/-- Short of a reset no step moves an engine whose call never returns (R238). -/
theorem step_of_hung (hcall : s.atBusCall = true) (hbus : s.nextBus = .never) (hreset : ∀ c, s.nextPick ≠ .reset c)
    (h : step s = .next t) : t.outsideHost = s.outsideHost ∧ t.position = s.position := by
  obtain ⟨hrun, _⟩ := atBusCall_iff.1 hcall
  obtain ⟨_, hhost⟩ | ⟨_, hengine⟩ | ⟨c, hpick, _⟩ := step_next h
  · exact ⟨hhost.outsideHost, hhost.position_of_run hrun⟩
  · obtain rfl := hengine.eq_of_hung hcall (s.takePick_nextBus.trans hbus)
    exact ⟨s.outsideHost_takePick, rfl⟩
  · exact absurd hpick (hreset c)

end Sys2Proof.Machine

open Sys2Proof Sys2Proof.Machine

/-- Settles O44: the engine's position, the frame it has gathered and the bus's next answer stay. -/
theorem hungEngineStaysStuck : Obligations.HungEngineStaysStuck := by
  intro s t hcall hbus hreset hstep
  obtain ⟨hout, hpos⟩ := step_of_hung hcall hbus hreset hstep
  simp only [State.outsideHost, State.mk.injEq, Env.mk.injEq] at hout
  simp only [State.position, Prod.mk.injEq] at hpos
  obtain ⟨hrun, hphase, hstepIx⟩ := hpos
  have hcall' : t.atBusCall = s.atBusCall := by simp only [State.atBusCall, hrun, hphase, hout]
  have hbus' : t.nextBus = s.nextBus := by simp only [State.nextBus, hout]
  obtain ⟨hrunning, _⟩ := atBusCall_iff.1 hcall
  exact ⟨hcall'.trans hcall, hbus'.trans hbus, hrun.trans hrunning, hphase, hstepIx, by simp only [hout],
    by simp only [hout]⟩

end

section
/-!
SUPPORT. O54: of the engine's effects only the transmit of LOAD changes the frame in the shadow, and it leaves the row
count as it finds it (R143, R147).
-/

namespace Sys2Proof.Machine

variable {s t : State}

theorem EngineEffect.dframe (h : EngineEffect s t) :
    t.dframe = s.dframe ∨ s.phase = phaseLoad ∧ t.dmux = s.dmux := by
  cases h with
  | sent _ hphase | sendFailed _ hphase => exact .inr ⟨hphase, rfl⟩
  | _ => exact .inl rfl

/-- A pick of one micro-step of the engine makes at most one effect. -/
theorem step_microStep (hpick : s.nextPick = .engine) (h : step s = .next t) :
    t = s.takePick ∨ EngineEffect s.takePick t := by
  have hmove : (engineMove s.takePick).answer = .next t := by simpa only [step_eq_answer, nextMove, hpick] using h
  unfold engineMove at hmove
  split at hmove
  · split at hmove
    · exact exec_phase_next ‹_› hmove
    · simp only [Move.answer] at hmove
      split at hmove <;> cases hmove
      exact .inl rfl
  · cases hmove
    exact .inl rfl

end Sys2Proof.Machine

open Sys2Proof Sys2Proof.Machine

/-- Settles O54: under the invariant the display is parked all through LOAD. -/
theorem framesAreLoadedWhileParked : Obligations.FramesAreLoadedWhileParked := by
  intro s t hs hpick hstep hframe
  obtain rfl | heffect := step_microStep hpick hstep
  · exact absurd rfl hframe
  · obtain hsame | ⟨hphase, hdmux⟩ := heffect.dframe
    · exact absurd hsame hframe
    · exact ⟨hs.parked (.inr (.inl hphase)), hdmux⟩

end

section
/-!
SUPPORT. O56: the engine hands `CYCLE` to its waits and to nothing else. So hiding it, which is to set it to 0 with
every recorded duration, commutes with each effect of the engine: a wait under `CYCLE = 0` is a wait of 0.
-/

namespace Sys2Proof.Machine

/-! ### Hiding CYCLE -/

/-- A change of state whose outcome with `CYCLE` hidden is its outcome, hidden. -/
abbrev HidesCycle (f : State → State) : Prop := Function.Commute f State.hideCycle

/-- A meaning whose answer with `CYCLE` hidden is its answer, hidden. -/
abbrev AnswerHidesCycle (e : State → Result) : Prop :=
  Function.Semiconj e State.hideCycle (seenThrough State.hideCycle)

@[simp] theorem State.hideCycle_nextPick (s : State) : s.hideCycle.nextPick = s.nextPick := rfl

@[simp] theorem State.hideCycle_nextBus (s : State) : s.hideCycle.nextBus = s.nextBus := rfl

@[simp] theorem State.hideCycle_phase (s : State) : s.hideCycle.phase = s.phase := rfl

@[simp] theorem State.hideCycle_planEntry (s : State) : s.hideCycle.planEntry = s.planEntry := rfl

theorem takePick_hideCycle : HidesCycle State.takePick := fun _ => rfl

theorem takeBus_hideCycle : HidesCycle State.takeBus := fun _ => rfl

/-- An event is recorded as it is, but for its duration. -/
theorem pushEvent_hideCycle (e : Event) {e' : Event} (h : hideDuration e = e') (s : State) :
    s.hideCycle.pushEvent e' = (s.pushEvent e).hideCycle := by
  simp [State.pushEvent, State.hideCycle, h]

theorem rowTime_zero (c : Config) (n : Nat) : rowTime c 0#32 n = 0 := by simp [rowTime]

theorem expose_zero (num den : BitVec 7) : expose 0#32 num den = 0 := by simp [expose]

/-! ### The shared operations -/

variable {f g : State → State} {e : State → Result}

/-- A branch on a condition that does not read `CYCLE`, of states or of answers. -/
theorem ite_hideCycle {β : Type} {view : β → β} {f g : State → β} {c : State → Prop} [DecidablePred c]
    (hf : Function.Semiconj f State.hideCycle view) (hg : Function.Semiconj g State.hideCycle view)
    (hc : ∀ s, c s.hideCycle = c s := by exact fun _ => rfl) :
    Function.Semiconj (fun s => if c s then f s else g s) State.hideCycle view := by
  intro s
  by_cases h : c s
  · simpa [h, hc] using hf s
  · simpa [h, hc] using hg s

theorem next_hideCycle (hf : HidesCycle f) : AnswerHidesCycle fun s => .next (f s) :=
  fun s => congrArg Host.Outcome.next (hf s)

theorem microOp_hideCycle (p : BitVec 3) (he : AnswerHidesCycle e) : AnswerHidesCycle fun s => microOp p s (e s) :=
  ite_hideCycle (ite_hideCycle (fun _ => rfl) he) (fun _ => rfl)

theorem microEffect_hideCycle (p : BitVec 3) (hf : HidesCycle f) : HidesCycle (microEffect p f) :=
  ite_hideCycle hf fun _ => rfl

theorem repeatEffect_hideCycle (hf : HidesCycle f) : ∀ n, HidesCycle (repeatEffect n f)
  | 0 => fun _ => rfl
  | n + 1 => (repeatEffect_hideCycle hf n).comp_left hf

theorem skip_hideCycle (p : BusPhase) : HidesCycle (State.skip · p) := fun s =>
  congrArg (fun t => t.clearTx.advance)
    (pushEvent_hideCycle (.err p) rfl { s with terrCnt := saturatingSucc s.terrCnt })

/-- The bus answers whatever `CYCLE` is (R146), so a call needs it no more than its two effects do. -/
theorem busCall_hideCycle (p : BusPhase) (hok : HidesCycle f) (herr : HidesCycle g) :
    HidesCycle (busCall p f g) := by
  intro s
  obtain ⟨h, hs⟩ | ⟨h, hs⟩ | ⟨h, hs⟩ := busCall_cases p f g s <;>
    rw [hs, busCall, State.hideCycle_nextBus, h]
  · exact hok.comp_left takeBus_hideCycle s
  · exact ((skip_hideCycle p).comp_left herr).comp_left takeBus_hideCycle s

/-! ### The engine's micro-operations -/

theorem fetchEffect_hideCycle (src : Buf) (num den : BitVec 7) : HidesCycle (fetchEffect src num den) :=
  ite_hideCycle (fun _ => rfl) (fun _ => rfl)

theorem parkEffect_hideCycle : HidesCycle parkEffect :=
  busCall_hideCycle .park
    (fun t => congrArg (fun u => (u.withDmux (some t.cfg.parkRows)).withPhase phasePwait)
      (pushEvent_hideCycle (.cmd (parkBytes t.cfg)) rfl t))
    (fun _ => rfl)

/-- The park wait of `CYCLE = 0` is 0 (R164). -/
theorem pwaitEffect_hideCycle : HidesCycle pwaitEffect := by
  intro s
  have hwait : hideDuration (.wait (rowTime s.cfg s.cycle s.cfg.parkWaitRows)) =
      .wait (rowTime s.cfg 0#32 s.cfg.parkWaitRows) := by
    rw [rowTime_zero]
    rfl
  exact congrArg (fun t => t.clearTx.withPhase phaseLoad) (pushEvent_hideCycle _ hwait s)

theorem readEffect_hideCycle : HidesCycle readEffect := fun _ => rfl

theorem transmitEffect_hideCycle : HidesCycle transmitEffect :=
  busCall_hideCycle .load
    (fun t => congrArg (fun u => (u.withDframe (some t.tx)).clearTx.withPhase phaseUnpark)
      (pushEvent_hideCycle (.data t.tx) rfl t))
    (fun _ => rfl)

theorem loadEffect_hideCycle : HidesCycle loadEffect :=
  ite_hideCycle readEffect_hideCycle transmitEffect_hideCycle

theorem unparkEffect_hideCycle : HidesCycle unparkEffect :=
  busCall_hideCycle .unpark
    (fun t => congrArg (fun u => (u.withDmux (some t.cfg.unparkRows)).withPhase phaseXwait)
      (pushEvent_hideCycle (.cmd (unparkBytes t.cfg t.curSrc)) rfl t))
    (fun _ => rfl)

/-- The exposure of `CYCLE = 0` is 0 (R165). -/
theorem xwaitEffect_hideCycle : HidesCycle xwaitEffect := by
  intro s
  have hwait : hideDuration (.wait (expose s.cycle s.curNum s.curDen)) = .wait (expose 0#32 s.curNum s.curDen) := by
    rw [expose_zero]
    rfl
  exact congrArg State.advance (pushEvent_hideCycle _ hwait s)

theorem execFetch_hideCycle : AnswerHidesCycle execFetch := by
  refine microOp_hideCycle phaseFetch (ite_hideCycle (fun _ => rfl) fun s => ?_)
  rw [State.hideCycle_planEntry]
  cases s.planEntry <;> rfl

theorem execLoad_hideCycle : AnswerHidesCycle execLoad := by
  have hread : AnswerHidesCycle fun s => orNoSuchAddress (s.memRead s.loadAddr) fun _ => .next (readEffect s) := by
    intro s
    have hbyte : s.hideCycle.memRead s.hideCycle.loadAddr = s.memRead s.loadAddr := rfl
    simp only [hbyte]
    cases s.memRead s.loadAddr <;> rfl
  exact microOp_hideCycle phaseLoad <| ite_hideCycle (fun _ => rfl) <|
    ite_hideCycle hread (next_hideCycle transmitEffect_hideCycle)

/-- The micro-operation that a phase names (R160). -/
theorem exec_phase_hideCycle {p : BitVec 3} {i : Instr} (h : decodePhase p = .ok i) : AnswerHidesCycle (exec i) := by
  obtain ⟨_, rfl⟩ | ⟨_, rfl⟩ | ⟨_, rfl⟩ | ⟨_, rfl⟩ | ⟨_, rfl⟩ | ⟨_, rfl⟩ := decodePhase_cases h
  · exact execFetch_hideCycle
  · exact microOp_hideCycle phasePark (next_hideCycle parkEffect_hideCycle)
  · exact microOp_hideCycle phasePwait (next_hideCycle pwaitEffect_hideCycle)
  · exact execLoad_hideCycle
  · exact microOp_hideCycle phaseUnpark (next_hideCycle unparkEffect_hideCycle)
  · exact microOp_hideCycle phaseXwait (ite_hideCycle (fun _ => rfl) (next_hideCycle xwaitEffect_hideCycle))

/-- A SHOW is its micro-operations in order (R160). -/
theorem showEffect_hideCycle (src : Buf) (num den : BitVec 7) : HidesCycle (showEffect src num den) := by
  intro s
  have hfetch := fetchEffect_hideCycle src num den
  have hpark := (microEffect_hideCycle phasePark parkEffect_hideCycle).comp_left hfetch
  have hpwait := (microEffect_hideCycle phasePwait pwaitEffect_hideCycle).comp_left hpark
  have hloads := repeatEffect_hideCycle (microEffect_hideCycle phaseLoad loadEffect_hideCycle) (s.cfg.frameBytes + 1)
  have hload := hloads.comp_left hpwait
  have hunpark := (microEffect_hideCycle phaseUnpark unparkEffect_hideCycle).comp_left hload
  exact (microEffect_hideCycle phaseXwait xwaitEffect_hideCycle).comp_left hunpark s

theorem execShowEntry_hideCycle (src : Buf) (num den : BitVec 7) : AnswerHidesCycle (execShowEntry src num den) :=
  microOp_hideCycle phaseFetch (ite_hideCycle (next_hideCycle (showEffect_hideCycle src num den)) (fun _ => rfl))

/-! ### The picks of the engine -/

theorem engineMove_hideCycle : AnswerHidesCycle fun s => (engineMove s).answer := by
  intro s
  by_cases h : s.run = true
  · have h' : s.hideCycle.run = true := h
    simp only [engineMove, if_pos h, if_pos h', State.hideCycle_phase]
    cases hdecode : decodePhase s.phase with
    | ok i => exact exec_phase_hideCycle hdecode s
    | error r =>
      have hidle : AnswerHidesCycle fun t => if t.phase = phaseIdle then .next t else .fault .reservedState :=
        ite_hideCycle (fun _ => rfl) (fun _ => rfl)
      exact hidle s
  · have h' : ¬ s.hideCycle.run = true := h
    simp only [engineMove, if_neg h, if_neg h']
    rfl

theorem subframeMove_hideCycle : AnswerHidesCycle fun s => (subframeMove s).answer := by
  intro s
  by_cases h : (s.run && s.phase == phaseFetch) = true
  · have h' : (s.hideCycle.run && s.hideCycle.phase == phaseFetch) = true := h
    simp only [subframeMove, if_pos h, if_pos h', State.hideCycle_planEntry]
    cases s.planEntry with
    | none => exact engineMove_hideCycle s
    | some entry => exact execShowEntry_hideCycle entry.1 entry.2.1 entry.2.2 s
  · have h' : ¬(s.hideCycle.run && s.hideCycle.phase == phaseFetch) = true := h
    simp only [subframeMove, if_neg h, if_neg h']
    exact engineMove_hideCycle s

/-- A pick of the engine with `CYCLE` hidden is that pick, hidden (R151). -/
theorem step_hideCycle {s : State} (hpick : enginePick s.nextPick = true) :
    step s.hideCycle = seenThrough State.hideCycle (step s) := by
  rw [step_eq_answer, step_eq_answer, nextMove, nextMove, State.hideCycle_nextPick]
  cases hs : s.nextPick with
  | engine => exact engineMove_hideCycle.comp_left takePick_hideCycle s
  | subframe => exact subframeMove_hideCycle.comp_left takePick_hideCycle s
  | host => simp [hs, enginePick] at hpick
  | reset _ => simp [hs, enginePick] at hpick

end Sys2Proof.Machine

open Sys2Proof Sys2Proof.Machine

/-- Settles O56: both steps, hidden, are the step of the one state that both look like. -/
theorem cycleReachesOnlyTheWaits : Obligations.CycleReachesOnlyTheWaits := by
  intro s s' h hpick
  have hpick' : enginePick s'.nextPick = true := by
    rwa [← s'.hideCycle_nextPick, ← h]
  rw [agreeUpTo_iff]
  calc seenThrough State.hideCycle (step s)
    _ = step s.hideCycle := (step_hideCycle hpick).symm
    _ = step s'.hideCycle := by rw [h]
    _ = seenThrough State.hideCycle (step s') := step_hideCycle hpick'

end

section
/-!
SUPPORT. O31, O33, O37: FETCH, PWAIT and XWAIT where they are enabled, each by its one change of the state.
-/

namespace Sys2Proof.Machine

variable {s : State}

/-- FETCH with a stop pending is the exit (R161). -/
theorem execFetch_exits (hrun : s.run = true) (hphase : s.phase = phaseFetch) (hreg : s.reservedRegs = false)
    (hstop : s.stopReq = true) : execFetch s = .next s.exitEngine :=
  microOp_at hrun hphase hreg (if_pos hstop)

/-- FETCH with none pending latches the plan entry that the engine is at (R161). -/
theorem execFetch_latches {src : Buf} {num den : BitVec 7} (hrun : s.run = true) (hphase : s.phase = phaseFetch)
    (hreg : s.reservedRegs = false) (hstop : s.stopReq = false) (hentry : s.planEntry = some (src, num, den)) :
    execFetch s = .next (s.latch src num den) :=
  microOp_at hrun hphase hreg <| by rw [hstop, hentry]; rfl

/-- The entry that the engine is at, from its word in the plan (R110, R161). -/
theorem planEntry_of_word {w : BitVec 16} {src : Buf} {num den : BitVec 7}
    (hword : s.plan[s.clippedStep.toNat]? = some w) (hdecode : decodePlanEntry w = .ok (.showEntry src num den)) :
    s.planEntry = some (src, num, den) := by
  have hplanWord : s.planWord = some w := hword
  simp only [State.planEntry, hplanWord, hdecode]

/-- The clipped `STEP` as a number (R161). -/
theorem clippedStep_toNat : s.clippedStep.toNat = if s.plan.length ≤ s.stepIx.toNat then 0 else s.stepIx.toNat :=
  apply_ite BitVec.toNat _ _ _

theorem execPwait_records (hrun : s.run = true) (hphase : s.phase = phasePwait) (hreg : s.reservedRegs = false) :
    execPwait s = .next (pwaitEffect s) :=
  microOp_at hrun hphase hreg rfl

theorem execXwait_records (hrun : s.run = true) (hphase : s.phase = phaseXwait) (hreg : s.reservedRegs = false)
    (hden : s.curDen ≠ 0#7) : execXwait s = .next (xwaitEffect s) :=
  microOp_at hrun hphase hreg (if_neg hden)

end Sys2Proof.Machine

open Sys2Proof Sys2Proof.Machine

/-- Settles O31: FETCH is the exit or the latch of the entry at the clipped `STEP`. -/
theorem fetchExitsOrLatches : Obligations.FetchExitsOrLatches := by
  intro s hrun hphase hstep hsrc
  have hreg := reservedRegs_eq_false hstep hsrc
  refine ⟨execFetch_exits hrun hphase hreg, fun hstop plan ix w src num den hplan hix hword hdecode => ?_⟩
  have hclipped : s.clippedStep.toNat = ix := by rw [clippedStep_toNat, hix, hplan]; rfl
  have hentry : s.planEntry = some (src, num, den) := planEntry_of_word (by rw [hclipped, ← hword, hplan]; rfl) hdecode
  have hstepIx : BitVec.ofNat 2 ix = s.clippedStep := by rw [← hclipped, BitVec.ofNat_toNat, BitVec.setWidth_eq]
  rw [hstepIx]
  exact execFetch_latches hrun hphase hreg hstop hentry

/-- Settles O33: `row_time` is R164's formula. -/
theorem pwaitRecordsTheParkWait : Obligations.PwaitRecordsTheParkWait := fun _ hrun hphase hstep hsrc =>
  execPwait_records hrun hphase (reservedRegs_eq_false hstep hsrc)

/-- Settles O37: `expose` is R165's formula, and `STEP` advances in the plan that `GS` selects. -/
theorem xwaitRecordsTheExposureAndAdvances : Obligations.XwaitRecordsTheExposureAndAdvances :=
  fun _ hrun hphase hstep hsrc hden => execXwait_records hrun hphase (reservedRegs_eq_false hstep hsrc) hden

end

section
/-!
SUPPORT. O45, O46: the arithmetic of the default plans, exposures and lit fractions.
-/

namespace Sys2Proof.Machine

/-- The fractions of the default grayscale plan (R167). -/
theorem planFractions_defaultGs :
    planFractions Config.default.planGs = some [(.a, 1, 2), (.b, 1, 4), (.c, 1, 4)] := rfl

/-- Two quarters and a half, each rounded down, fall short of the whole by at most 2 (R169). -/
theorem half_and_quarters (n : Nat) :
    n ≤ n * 1 / 2 + n * 1 / 4 + n * 1 / 4 + 2 ∧ n * 1 / 2 + n * 1 / 4 + n * 1 / 4 ≤ n := by
  omega

/-- 48 rows of 192 are the quarter of the cycle (R166). -/
theorem rowTime_exposeRows (cycle : Word) :
    rowTime Config.default cycle Config.default.exposeRows = expose cycle 1#7 4#7 := by
  have hquarter (n : Nat) : 48 * n / 192 = n * 1 / 4 := by omega
  exact hquarter cycle.toNat

end Sys2Proof.Machine

open Sys2Proof Sys2Proof.Machine

/-- Settles O45: the two facts for every `CYCLE`; the plans and the nominal durations are evaluated. -/
theorem exposuresSumToTheCycle : Obligations.ExposuresSumToTheCycle :=
  ⟨fun cycle => half_and_quarters cycle.toNat, by decide, by decide, planFractions_defaultGs, rfl, rowTime_exposeRows,
    rfl, rfl, rfl, rfl⟩

/-- Settles O46: the lit fraction of each pair of layer bits, over the default plan's three steps. -/
theorem litFractions : Obligations.LitFractions := by
  intro fs hfs a b
  obtain rfl := Option.some.inj (planFractions_defaultGs.symm.trans hfs)
  cases a <;> cases b <;> rfl

end

section
/-!
SUPPORT. O41: runs of engine picks. Inside a sub-frame step each pick makes one micro-operation, so a SHOW is the run of
those that are enabled (R160).
-/

namespace Sys2Proof.Machine

variable {s t u : State}

/-! ### Runs of engine picks -/

theorem runSteps_add {n : Nat} (m : Nat) (h : runSteps n s = .next t) : runSteps (n + m) s = runSteps m t := by
  induction n generalizing s with
  | zero =>
    cases h
    rw [Nat.zero_add]
  | succ n ih =>
    rw [runSteps] at h
    split at h
    next v hstep => rw [Nat.add_right_comm, runSteps_succ _ hstep, ih h]
    all_goals cases h

/-- `n` picks of the engine take `s` to `t` and leave the picks after them. -/
def EngineRun (n : Nat) (s t : State) : Prop :=
  ∀ k, runSteps n (s.scheduling .engine (k + n)) = .next (t.scheduling .engine k)

namespace EngineRun

theorem refl (s : State) : EngineRun 0 s s := fun _ => rfl

theorem trans {n m : Nat} (h : EngineRun n s t) (h' : EngineRun m t u) : EngineRun (n + m) s u := fun k => by
  rw [Nat.add_comm n m, ← Nat.add_assoc, Nat.add_comm m n, runSteps_add m (h (k + m)), h' k]

theorem runSteps_scheduling {n : Nat} (h : EngineRun n s t) : runSteps n (s.scheduling .engine n) = .next t := by
  have hnone := h 0
  rw [Nat.zero_add] at hnone
  exact hnone

/-- One micro-operation, which leaves the picks alone. -/
theorem one {i : Instr} (hrun : s.run = true) (hdecode : decodePhase s.phase = .ok i)
    (hexec : ∀ k, exec i (s.scheduling .engine k) = .next (t.scheduling .engine k)) : EngineRun 1 s t := fun k => by
  have hstep : step (s.scheduling .engine (k + 1)) = .next (t.scheduling .engine k) :=
    (step_of_run (nextMove_engine_decodes (s := s.scheduling .engine (k + 1)) rfl hrun hdecode)).trans (hexec k)
  exact runSteps_succ 0 hstep

/-- The picks of a stopped engine are only used up. -/
theorem stopped (hrun : s.run = false) : ∀ n, EngineRun n s s
  | 0 => refl s
  | n + 1 => fun k => by
    have hstep : step (s.scheduling .engine (k + n + 1)) = .next (s.scheduling .engine (k + n)) :=
      step_of_done <| by
        have hidle : engineMove (s.scheduling .engine (k + n)) = .done (.next (s.scheduling .engine (k + n))) :=
          if_neg (by simpa [State.scheduling] using hrun)
        exact hidle
    exact (runSteps_succ n hstep).trans (stopped hrun n k)

/-- The FETCH of a well-formed plan (R161). -/
theorem fetch {src : Buf} {num den : BitVec 7} (hrun : s.run = true) (hphase : s.phase = phaseFetch)
    (hreg : s.reservedRegs = false) (hentry : s.planEntry = some (src, num, den)) :
    EngineRun 1 s (fetchEffect src num den s) := by
  refine one (i := .fetch) hrun (by rw [hphase]; rfl) fun k => ?_
  unfold fetchEffect
  split
  next hstop => exact execFetch_exits (s := s.scheduling .engine k) hrun hphase hreg hstop
  next hstop =>
    exact execFetch_latches (s := s.scheduling .engine k) hrun hphase hreg (Bool.eq_false_iff.2 hstop) hentry

end EngineRun

/-! ### The micro-operations inside a step -/

/-- What keeps a micro-operation inside a sub-frame step from a stop: no reserved register value, a denominator, and in
LOAD an index in its range (R27, R28, U12 b). -/
def State.Ready (s : State) : Prop :=
  s.insideStep = true → s.reservedRegs = false ∧ s.curDen ≠ 0#7 ∧ (s.phase = phaseLoad → s.lidx ≤ s.cfg.frameBytes)

theorem denominator_ne_zero {num den : BitVec 7} (h : fractionWellFormed num den = true) : den ≠ 0#7 := by
  simp only [fractionWellFormed, Bool.and_eq_true, bne_iff_ne] at h
  exact h.1.2

theorem Invariant.ready (hs : Invariant s) : s.Ready := fun hin =>
  ⟨hs.reservedRegs, denominator_ne_zero (hs.latched hin), fun _ => hs.loadBound⟩

theorem ready_outside (h : s.insideStep = false) : s.Ready := fun hin => by simp [h] at hin

/-- A FETCH with legal registers leaves the step ready (R161). -/
theorem fetchEffect_ready {src : Buf} {num den : BitVec 7} (hstep : s.stepIx ≠ 3#2)
    (hfraction : fractionWellFormed num den = true) : (fetchEffect src num den s).Ready := by
  unfold fetchEffect
  split
  · exact ready_outside rfl
  · exact fun _ => ⟨reservedRegs_eq_false (clippedStep_legal hstep) (bufCode_legal src),
      denominator_ne_zero hfraction, fun hphase => absurd hphase (by simp [phasePark, phaseLoad])⟩

/-- Where the engine can be inside a step (R26). -/
theorem insideStep_cases (h : s.insideStep = true) : s.phase = phasePark ∨ s.phase = phasePwait ∨
    s.phase = phaseLoad ∨ s.phase = phaseUnpark ∨ s.phase = phaseXwait := by
  have hphases : ∀ p : BitVec 3, (2 ≤ p.toNat && p.toNat ≤ 6) = true → p = phasePark ∨ p = phasePwait ∨
      p = phaseLoad ∨ p = phaseUnpark ∨ p = phaseXwait := by decide
  exact hphases s.phase h

/-- The micro-operations inside a step leave the step ready: a skip leaves the step, the others its registers. -/
theorem EngineEffect.ready (h : EngineEffect s t) (hs : s.Ready) (hin : s.insideStep = true) : t.Ready := by
  obtain ⟨hreg, hden, hload⟩ := hs hin
  cases h with
  | exit | parkFailed | sendFailed | unparkFailed | exposed => exact ready_outside rfl
  | latch _ _ _ _ hphase => simp [State.insideStep, hphase, phaseFetch] at hin
  | parked => exact fun _ => ⟨hreg, hden, fun hp => absurd hp (by simp [phasePwait, phaseLoad])⟩
  | waited => exact fun _ => ⟨hreg, hden, fun _ => Nat.zero_le _⟩
  | read _ _ hindex => exact fun _ => ⟨hreg, hden, fun _ => hindex⟩
  | sent => exact fun _ => ⟨hreg, hden, fun hp => absurd hp (by simp [phaseUnpark, phaseLoad])⟩
  | unparked => exact fun _ => ⟨hreg, hden, fun hp => absurd hp (by simp [phaseXwait, phaseLoad])⟩
  | hung => exact hs

/-- A change of state that leaves the picks to come as they are. -/
def KeepsPicks (f : State → State) : Prop := ∀ s k, f (s.scheduling .engine k) = (f s).scheduling .engine k

theorem takeBus_keepsPicks : KeepsPicks State.takeBus := fun s _ => by
  cases h : s.env.bus <;> simp [State.takeBus, State.scheduling, Env.takeBus, h]

theorem busCall_keepsPicks (p : BusPhase) {onOk onErr : State → State} (hok : KeepsPicks onOk)
    (herr : KeepsPicks onErr) : KeepsPicks (busCall p onOk onErr) := fun s k => by
  have hbus : (s.scheduling .engine k).nextBus = s.nextBus := rfl
  obtain ⟨h, he⟩ | ⟨h, he⟩ | ⟨h, he⟩ := busCall_cases p onOk onErr s <;> rw [he, busCall, hbus, h]
  · exact (congrArg onOk (takeBus_keepsPicks s k)).trans (hok _ k)
  · exact congrArg (State.skip · p) ((congrArg onErr (takeBus_keepsPicks s k)).trans (herr _ k))

/-- `f` is the effect of the micro-operation that phase `p`, inside a sub-frame step, names. -/
structure Performs (p : BitVec 3) (f : State → State) : Prop where
  inside : 2 ≤ p.toNat ∧ p.toNat ≤ 6
  instr : ∃ i, decodePhase p = .ok i ∧
    ∀ s : State, s.run = true → s.phase = p → s.Ready → exec i s = .next (f s)
  picks : KeepsPicks f
  effect : ∀ s : State, s.run = true → s.phase = p → EngineEffect s (f s)

theorem performs_park : Performs phasePark parkEffect where
  inside := by decide
  instr := ⟨.park, rfl, fun _ hrun hphase hs =>
    microOp_at hrun hphase (hs (insideStep_of_phase hphase (by decide))).1 rfl⟩
  picks := busCall_keepsPicks .park (fun _ _ => rfl) (fun _ _ => rfl)
  effect _ := .park

theorem performs_pwait : Performs phasePwait pwaitEffect where
  inside := by decide
  instr := ⟨.pwait, rfl, fun _ hrun hphase hs =>
    execPwait_records hrun hphase (hs (insideStep_of_phase hphase (by decide))).1⟩
  picks _ _ := rfl
  effect _ := .waited

theorem execLoad_ready (hrun : s.run = true) (hphase : s.phase = phaseLoad) (hs : s.Ready) :
    execLoad s = .next (loadEffect s) := by
  obtain ⟨hreg, _, hload⟩ := hs (insideStep_of_phase hphase (by decide))
  have hsrc : s.curSrc ≠ 3#2 := fun h => by simp [State.reservedRegs, h] at hreg
  unfold loadEffect
  split
  next hindex => exact execLoad_reads hrun hphase hreg hindex (loadAddr_lt hsrc hindex)
  next hindex =>
    exact execLoad_transmits hrun hphase hreg (Nat.le_antisymm (hload hphase) (Nat.le_of_not_lt hindex))

theorem performs_load : Performs phaseLoad loadEffect where
  inside := by decide
  instr := ⟨.load, rfl, fun _ => execLoad_ready⟩
  picks s k := by
    have htransmit : KeepsPicks transmitEffect := busCall_keepsPicks .load (fun _ _ => rfl) (fun _ _ => rfl)
    by_cases hindex : s.lidx < s.cfg.frameBytes
    · have hindex' : (s.scheduling .engine k).lidx < (s.scheduling .engine k).cfg.frameBytes := hindex
      rw [loadEffect, if_pos hindex', loadEffect, if_pos hindex]
      rfl
    · have hindex' : ¬(s.scheduling .engine k).lidx < (s.scheduling .engine k).cfg.frameBytes := hindex
      rw [loadEffect, if_neg hindex', loadEffect, if_neg hindex, htransmit]
  effect _ := .load

theorem performs_unpark : Performs phaseUnpark unparkEffect where
  inside := by decide
  instr := ⟨.unpark, rfl, fun _ hrun hphase hs =>
    microOp_at hrun hphase (hs (insideStep_of_phase hphase (by decide))).1 rfl⟩
  picks := busCall_keepsPicks .unpark (fun _ _ => rfl) (fun _ _ => rfl)
  effect _ := .unpark

theorem performs_xwait : Performs phaseXwait xwaitEffect where
  inside := by decide
  instr := ⟨.xwait, rfl, fun _ hrun hphase hs => by
    obtain ⟨hreg, hden, _⟩ := hs (insideStep_of_phase hphase (by decide))
    exact execXwait_records hrun hphase hreg hden⟩
  picks _ _ := rfl
  effect _ := .exposed

/-- A pick of the engine makes the micro-operation of its phase (R160). -/
theorem Performs.run {p : BitVec 3} {f : State → State} (hf : Performs p f) (hrun : s.run = true) (hphase : s.phase = p)
    (hs : s.Ready) : EngineRun 1 s (f s) := by
  obtain ⟨i, hdecode, hexec⟩ := hf.instr
  exact .one hrun (hphase ▸ hdecode) fun k =>
    (hexec (s.scheduling .engine k) hrun hphase hs).trans (congrArg _ (hf.picks s k))

/-- A pick of an engine that runs inside a step makes one of those micro-operations. -/
theorem engineRun_inside (hrun : s.run = true) (hin : s.insideStep = true) (hs : s.Ready) :
    ∃ t, EngineRun 1 s t ∧ EngineEffect s t := by
  have hmakes {p : BitVec 3} {f : State → State} (hf : Performs p f) (hphase : s.phase = p) :
      ∃ t, EngineRun 1 s t ∧ EngineEffect s t :=
    ⟨f s, hf.run hrun hphase hs, hf.effect s hrun hphase⟩
  obtain h | h | h | h | h := insideStep_cases hin
  · exact hmakes performs_park h
  · exact hmakes performs_pwait h
  · exact hmakes performs_load h
  · exact hmakes performs_unpark h
  · exact hmakes performs_xwait h

/-! ### A whole SHOW -/

/-- At most `n` picks of the engine take `s` to `t`, which is ready for the rest of the step. -/
def ReachesReady (n : Nat) (s t : State) : Prop := t.Ready ∧ ∃ k, k ≤ n ∧ EngineRun k s t

theorem ReachesReady.trans {n m : Nat} (h : ReachesReady n s t) (h' : ReachesReady m t u) :
    ReachesReady (n + m) s u := by
  obtain ⟨_, k, hk, hrun⟩ := h
  obtain ⟨hu, j, hj, hrun'⟩ := h'
  exact ⟨hu, k + j, Nat.add_le_add hk hj, hrun.trans hrun'⟩

/-- A micro-operation of a SHOW is one pick of the engine, or none where it is not enabled. -/
theorem Performs.reaches {p : BitVec 3} {f : State → State} (hf : Performs p f) (hs : s.Ready) :
    ReachesReady 1 s (microEffect p f s) := by
  obtain ⟨hrun, hphase, he⟩ | ⟨_, he⟩ := microEffect_cases p f s <;> rw [he]
  · have hready := (hf.effect s hrun hphase).ready hs (insideStep_of_phase hphase hf.inside)
    exact ⟨hready, 1, Nat.le_refl 1, hf.run hrun hphase hs⟩
  · exact ⟨hs, 0, Nat.zero_le 1, .refl s⟩

theorem Performs.reaches_repeat {p : BitVec 3} {f : State → State} (hf : Performs p f) (hs : s.Ready) :
    ∀ n, ReachesReady n s (repeatEffect n (microEffect p f) s)
  | 0 => ⟨hs, 0, Nat.le_refl 0, .refl s⟩
  | n + 1 => by
    have hreads := hf.reaches_repeat hs n
    rw [repeatEffect_succ_last]
    exact hreads.trans (hf.reaches hreads.1)

/-- After its FETCH a SHOW is at most `N + 5` picks of the engine: one for each of PARK, PWAIT, UNPARK and XWAIT, and
`N + 1` for LOAD (R160). -/
theorem showEffect_reaches {src : Buf} {num den : BitVec 7} (hs : (fetchEffect src num den s).Ready) :
    ReachesReady (s.cfg.frameBytes + 5) (fetchEffect src num den s) (showEffect src num den s) := by
  have hpark := performs_park.reaches hs
  have hpwait := hpark.trans (performs_pwait.reaches hpark.1)
  have hload := hpwait.trans (performs_load.reaches_repeat hpwait.1 (s.cfg.frameBytes + 1))
  have hunpark := hload.trans (performs_unpark.reaches hload.1)
  have hxwait := hunpark.trans (performs_xwait.reaches hunpark.1)
  have hcount : 1 + 1 + (s.cfg.frameBytes + 1) + 1 + 1 = s.cfg.frameBytes + 5 := by omega
  exact hcount ▸ hxwait

end Sys2Proof.Machine

open Sys2Proof Sys2Proof.Machine

/-- Settles O41: the FETCH, then the micro-operations that are enabled. -/
theorem showIsItsMicroSteps : Obligations.ShowIsItsMicroSteps := by
  intro s src num den hrun hphase hstep hsrc hentry
  have hreg := reservedRegs_eq_false hstep hsrc
  have hfraction := planEntry_wellFormed s src num den hentry
  obtain ⟨_, k, hk, hshow⟩ := showEffect_reaches (src := src) (fetchEffect_ready hstep hfraction)
  have hfetch := EngineRun.fetch hrun hphase hreg hentry
  exact ⟨1 + k, showEffect src num den s, by omega, by omega, microOp_at hrun hphase hreg (if_pos hfraction),
    (hfetch.trans hshow).runSteps_scheduling⟩

end

section
/-!
SUPPORT. O43, O47: from inside a sub-frame step to the next FETCH, with a bus that answers. A measure bounds the
micro-steps left.
-/

namespace Sys2Proof.Machine

variable {s t : State} {P : BusAnswer → Prop}

/-! ### The micro-steps and the bus calls left -/

/-- The micro-steps of the step in progress that are left when no bus call fails: at most `N + 5`, from PARK (R160). -/
def State.stepsLeft (s : State) : Nat :=
  match s.phase with
  | 2#3 => s.cfg.frameBytes + 5
  | 3#3 => s.cfg.frameBytes + 4
  | 4#3 => s.cfg.frameBytes - s.lidx + 3
  | 5#3 => 2
  | 6#3 => 1
  | _ => 0

/-- The bus calls of the step in progress that are left (R141, R143, R144). -/
def callsLeft (p : BitVec 3) : Nat :=
  match p with
  | 2#3 => 3
  | 3#3 => 2
  | 4#3 => 2
  | 5#3 => 1
  | _ => 0

/-- The next `n` answers of the bus are listed and satisfy `P`. -/
def State.BusGives (s : State) (P : BusAnswer → Prop) (n : Nat) : Prop :=
  ∀ i, i < n → ∃ answer, s.env.bus[i]? = some answer ∧ P answer

theorem busGives_zero : s.BusGives P 0 := fun _ hi => absurd hi (Nat.not_lt_zero _)

/-- Three listed answers suffice for the rest of a step (R145). -/
theorem busGives_callsLeft {x y z : BusAnswer} {rest : List BusAnswer} (h : s.env.bus = x :: y :: z :: rest)
    (hx : P x) (hy : P y) (hz : P z) (p : BitVec 3) : s.BusGives P (callsLeft p) := by
  have hthree : ∀ p : BitVec 3, callsLeft p ≤ 3 := by decide
  intro i hi
  rw [h]
  match i, Nat.lt_of_lt_of_le hi (hthree p) with
  | 0, _ => exact ⟨x, rfl, hx⟩
  | 1, _ => exact ⟨y, rfl, hy⟩
  | 2, _ => exact ⟨z, rfl, hz⟩

theorem nextBus_of_busGives {n : Nat} (h : s.BusGives P (n + 1)) : P s.nextBus := by
  obtain ⟨answer, hanswer, hP⟩ := h 0 n.succ_pos
  cases hbus : s.env.bus with
  | nil => simp [hbus] at hanswer
  | cons first rest =>
    rw [nextBus_of_cons hbus]
    simp only [hbus, List.getElem?_cons_zero, Option.some.injEq] at hanswer
    rwa [hanswer]

theorem takeBus_busGives {n : Nat} (h : s.BusGives P (n + 1)) : s.takeBus.BusGives P n := by
  intro i hi
  obtain ⟨answer, hanswer, hP⟩ := h (i + 1) (Nat.succ_lt_succ hi)
  refine ⟨answer, ?_, hP⟩
  cases hbus : s.env.bus with
  | nil => simp [hbus] at hanswer
  | cons first rest =>
    rw [State.takeBus_env, Env.takeBus_of_cons hbus]
    simpa [hbus] using hanswer

theorem stepsLeft_park (h : s.phase = phasePark) : s.stepsLeft = s.cfg.frameBytes + 5 := by
  simp [State.stepsLeft, h, phasePark]

theorem stepsLeft_pwait (h : s.phase = phasePwait) : s.stepsLeft = s.cfg.frameBytes + 4 := by
  simp [State.stepsLeft, h, phasePwait]

theorem stepsLeft_load (h : s.phase = phaseLoad) : s.stepsLeft = s.cfg.frameBytes - s.lidx + 3 := by
  simp [State.stepsLeft, h, phaseLoad]

theorem stepsLeft_unpark (h : s.phase = phaseUnpark) : s.stepsLeft = 2 := by
  simp [State.stepsLeft, h, phaseUnpark]

theorem stepsLeft_xwait (h : s.phase = phaseXwait) : s.stepsLeft = 1 := by
  simp [State.stepsLeft, h, phaseXwait]

theorem stepsLeft_fetch (h : s.phase = phaseFetch) : s.stepsLeft = 0 := by
  simp [State.stepsLeft, h, phaseFetch]

theorem stepsLeft_le (s : State) : s.stepsLeft ≤ s.cfg.frameBytes + 5 := by
  unfold State.stepsLeft
  split <;> omega

theorem stepsLeft_pos (h : s.insideStep = true) : 0 < s.stepsLeft := by
  obtain h | h | h | h | h := insideStep_cases h
  · rw [stepsLeft_park h]; omega
  · rw [stepsLeft_pwait h]; omega
  · rw [stepsLeft_load h]; omega
  · rw [stepsLeft_unpark h]; omega
  · rw [stepsLeft_xwait h]; omega

/-! ### Progress -/

/-- The end of the step leaves nothing of it. -/
theorem progress_to_fetch (hin : s.insideStep = true) (ht : t.phase = phaseFetch) :
    t.stepsLeft < s.stepsLeft ∧ t.BusGives P (callsLeft t.phase) := by
  rw [stepsLeft_fetch ht, ht]
  exact ⟨stepsLeft_pos hin, busGives_zero⟩

/-- A micro-operation inside a step, when the bus answers, leaves fewer micro-steps, and listed answers for the calls
left. -/
theorem EngineEffect.progress (h : EngineEffect s t) (hin : s.insideStep = true) (hreturns : s.nextBus ≠ .never)
    (hbus : s.BusGives P (callsLeft s.phase)) :
    t.stepsLeft < s.stepsLeft ∧ t.BusGives P (callsLeft t.phase) := by
  cases h with
  | exit _ hphase | latch _ _ _ _ hphase => simp [State.insideStep, hphase, phaseFetch] at hin
  | parkFailed | sendFailed | unparkFailed | exposed => exact progress_to_fetch hin rfl
  | parked _ hphase =>
    rw [hphase] at hbus
    refine ⟨?_, takeBus_busGives (n := 2) hbus⟩
    rw [stepsLeft_park hphase, stepsLeft_pwait rfl]
    exact Nat.lt_succ_self _
  | waited _ hphase =>
    rw [hphase] at hbus
    refine ⟨?_, hbus⟩
    rw [stepsLeft_pwait hphase, stepsLeft_load rfl]
    exact Nat.lt_succ_self _
  | read _ hphase hindex =>
    refine ⟨?_, hbus⟩
    rw [stepsLeft_load hphase, stepsLeft_load (s := readEffect s) hphase]
    simp only [readEffect, State.pushTx]
    omega
  | sent _ hphase =>
    rw [hphase] at hbus
    refine ⟨?_, takeBus_busGives (n := 1) hbus⟩
    rw [stepsLeft_load hphase, stepsLeft_unpark rfl]
    omega
  | unparked _ hphase =>
    rw [hphase] at hbus
    refine ⟨?_, takeBus_busGives (n := 0) hbus⟩
    rw [stepsLeft_unpark hphase, stepsLeft_xwait rfl]
    exact Nat.lt_succ_self _
  | hung _ hnever => exact absurd hnever hreturns

/-- Before XWAIT a bus call is left, so the next answer is a listed one. -/
theorem nextBus_before_xwait (hin : s.insideStep = true) (hx : s.phase ≠ phaseXwait)
    (hbus : s.BusGives P (callsLeft s.phase)) : P s.nextBus := by
  have hcalls : callsLeft s.phase ≠ 0 := by
    obtain h | h | h | h | h := insideStep_cases hin
    case inr.inr.inr.inr => exact absurd h hx
    all_goals rw [h]; decide
  obtain ⟨n, hn⟩ := Nat.exists_eq_succ_of_ne_zero hcalls
  exact nextBus_of_busGives (hn ▸ hbus)

theorem Invariant.run_of_phase (hs : Invariant s) (hphase : s.phase ≠ phaseIdle) : s.run = true := by
  by_contra hrun
  exact hphase (hs.idle.2 (Bool.eq_false_iff.2 hrun))

theorem Invariant.run_of_insideStep (hs : Invariant s) (hin : s.insideStep = true) : s.run = true :=
  hs.run_of_phase fun hidle => by simp [State.insideStep, hidle, phaseIdle] at hin

/-- A running engine is inside a step or at the FETCH between two (R26). -/
theorem Invariant.insideStep_of_run (hs : Invariant s) (hrun : s.run = true) (hphase : s.phase ≠ phaseFetch) :
    s.insideStep = true := by
  have hcodes : ∀ p : BitVec 3, p ≠ phaseIdle → p ≠ phaseFetch → p ≠ 7#3 → (2 ≤ p.toNat && p.toNat ≤ 6) = true := by
    decide
  exact hcodes s.phase (fun h => by simp [hs.idle.1 h] at hrun) hphase hs.phaseLegal

/-- A pick of the engine inside a step whose bus calls return. -/
theorem Invariant.engineRun_progress (hs : Invariant s) (hin : s.insideStep = true) (hnever : ¬P .never)
    (hbus : s.BusGives P (callsLeft s.phase)) :
    ∃ t, EngineRun 1 s t ∧ EngineEffect s t ∧ t.stepsLeft < s.stepsLeft ∧ t.BusGives P (callsLeft t.phase) := by
  have hrun := hs.run_of_insideStep hin
  by_cases hx : s.phase = phaseXwait
  · exact ⟨xwaitEffect s, performs_xwait.run hrun hx hs.ready, .exposed hrun hx, progress_to_fetch hin rfl⟩
  · obtain ⟨t, hpick, heffect⟩ := engineRun_inside hrun hin hs.ready
    have hreturns : s.nextBus ≠ .never := fun h => hnever (h ▸ nextBus_before_xwait hin hx hbus)
    exact ⟨t, hpick, heffect, heffect.progress hin hreturns hbus⟩

/-- Picks that each leave fewer micro-steps, and keep `Q`, get where `stop` holds. -/
theorem EngineRun.until {Q stop : State → Prop}
    (hprogress : ∀ u, Q u → ¬stop u → ∃ v, EngineRun 1 u v ∧ v.stepsLeft < u.stepsLeft ∧ Q v) (hs : Q s) :
    ∃ k t, k + t.stepsLeft ≤ s.stepsLeft ∧ EngineRun k s t ∧ Q t ∧ stop t := by
  induction hn : s.stepsLeft using Nat.strong_induction_on generalizing s with
  | _ n ih =>
    by_cases hstop : stop s
    · exact ⟨0, s, by omega, .refl s, hs, hstop⟩
    · obtain ⟨v, hpick, hless, hv⟩ := hprogress s hs hstop
      obtain ⟨k, t, hk, hrun, ht, hstop'⟩ := ih v.stepsLeft (hn ▸ hless) hv rfl
      exact ⟨1 + k, t, by omega, hpick.trans hrun, ht, hstop'⟩

/-! ### A stop pending -/

/-- With a stop pending the engine comes to a FETCH, the stop still pending (R161, R211). -/
theorem Invariant.reaches_fetch (hs : Invariant s) (hstop : s.stopReq = true)
    (hbus : s.BusGives (· ≠ .never) (callsLeft s.phase)) :
    ∃ k t, k ≤ s.cfg.frameBytes + 5 ∧ EngineRun k s t ∧ Invariant t ∧ t.stopReq = true ∧ t.phase = phaseFetch := by
  obtain ⟨k, t, hk, hpicks, ⟨ht, htstop, _⟩, hphase⟩ := EngineRun.until
    (Q := fun u => Invariant u ∧ u.stopReq = true ∧ u.BusGives (· ≠ .never) (callsLeft u.phase))
    (stop := fun u => u.phase = phaseFetch)
    (fun u ⟨hu, hustop, hubus⟩ hphase => by
      have hin := hu.insideStep_of_run (hu.stopPending hustop).1 hphase
      obtain ⟨v, hpick, heffect, hless, hvbus⟩ := hu.engineRun_progress hin (fun h => h rfl) hubus
      obtain ⟨_, hfetch, _⟩ | ⟨_, hkept⟩ := heffect.exits_or_keeps_run
      · exact absurd hfetch hphase
      · exact ⟨v, hpick, hless, heffect.invariant hu, hkept.trans hustop, hvbus⟩)
    ⟨hs, hstop, hbus⟩
  have hbound := stepsLeft_le s
  exact ⟨k, t, by omega, hpicks, ht, htstop, hphase⟩

/-- The FETCH that finds the stop pending is the exit (R161). -/
theorem Invariant.engineRun_exit (hs : Invariant s) (hstop : s.stopReq = true) (hphase : s.phase = phaseFetch) :
    EngineRun 1 s s.exitEngine := by
  obtain ⟨⟨src, num, den⟩, hentry⟩ := planEntry_of_wellFormed hs.config
  have hfetch := EngineRun.fetch (hs.stopPending hstop).1 hphase hs.reservedRegs hentry
  rwa [fetchEffect, if_pos hstop] at hfetch

/-! ### The step in progress -/

/-- `u` is in the sub-frame step that is in progress in `s`, with the answers of the bus to come still `ok`. -/
structure StillInStep (s u : State) : Prop where
  invariant : Invariant u
  inside : u.insideStep = true
  bus : u.BusGives (· = .ok) (callsLeft u.phase)
  frame : EngineKeeps s u
  stopReq : u.stopReq = s.stopReq
  stepIx : u.stepIx = s.stepIx
  num : u.curNum = s.curNum
  den : u.curDen = s.curDen

/-- With an answer `ok`, a micro-operation before XWAIT stays in the step and keeps what FETCH latched (R27). -/
theorem EngineEffect.stays_inside (h : EngineEffect s t) (hin : s.insideStep = true) (hx : s.phase ≠ phaseXwait)
    (hok : s.nextBus = .ok) :
    t.insideStep = true ∧ t.stopReq = s.stopReq ∧ t.stepIx = s.stepIx ∧ t.curNum = s.curNum ∧ t.curDen = s.curDen := by
  cases h with
  | exit _ hphase | latch _ _ _ _ hphase => simp [State.insideStep, hphase, phaseFetch] at hin
  | parkFailed _ _ herr | sendFailed _ _ _ herr | unparkFailed _ _ herr => simp [hok] at herr
  | exposed _ hphase => exact absurd hphase hx
  | hung _ hnever => simp [hok] at hnever
  | read => exact ⟨hin, rfl, rfl, rfl, rfl⟩
  | parked | waited | sent | unparked => exact ⟨rfl, rfl, rfl, rfl, rfl⟩

/-- The step in progress comes to its XWAIT when the bus answers `ok` (R160). -/
theorem StillInStep.reaches_xwait (hs : StillInStep s s) :
    ∃ k t, k + 1 ≤ s.cfg.frameBytes + 5 ∧ EngineRun k s t ∧ StillInStep s t ∧ t.phase = phaseXwait := by
  obtain ⟨k, t, hk, hpicks, ht, hphase⟩ := EngineRun.until (Q := StillInStep s) (stop := fun u => u.phase = phaseXwait)
    (fun u hu hx => by
      obtain ⟨v, hpick, heffect, hless, hvbus⟩ := hu.invariant.engineRun_progress hu.inside nofun hu.bus
      obtain ⟨hin, hstop, hstepIx, hnum, hden⟩ :=
        heffect.stays_inside hu.inside hx (nextBus_before_xwait hu.inside hx hu.bus)
      exact ⟨v, hpick, hless, {
        invariant := heffect.invariant hu.invariant
        inside := hin
        bus := hvbus
        frame := hu.frame.trans heffect.engineKeeps
        stopReq := hstop.trans hu.stopReq
        stepIx := hstepIx.trans hu.stepIx
        num := hnum.trans hu.num
        den := hden.trans hu.den }⟩)
    hs
  rw [stepsLeft_xwait hphase] at hk
  exact ⟨k, t, hk.trans (stepsLeft_le s), hpicks, ht, hphase⟩

/-- The step in progress runs on to the FETCH after it, and records last the exposure of the latched fraction (R163). -/
theorem StillInStep.reaches_fetch (hs : StillInStep s s) :
    ∃ k t events, k ≤ s.cfg.frameBytes + 5 ∧ EngineRun k s t ∧ Invariant t ∧ EngineKeeps s t ∧ t.phase = phaseFetch ∧
      t.stopReq = s.stopReq ∧ t.stepIx = s.nextStepIx ∧
      t.trace = s.trace ++ events ++ [.wait (s.cycle.toNat * s.curNum.toNat / s.curDen.toNat)] := by
  obtain ⟨k, u, hk, hpicks, hu, hphase⟩ := hs.reaches_xwait
  obtain ⟨events, htrace⟩ := hu.frame.trace
  have hrun := hu.invariant.run_of_insideStep hu.inside
  have hexposed := EngineEffect.exposed hrun hphase
  have hcycle : u.cycle = s.cycle := (congrArg State.cycle hu.frame.outside :)
  have hgs : u.gs = s.gs := (congrArg State.gs hu.frame.outside :)
  have hnext : u.nextStepIx = s.nextStepIx := by
    simp only [State.nextStepIx, State.plan, hu.stepIx, hu.frame.cfg, hgs]
  have hlast : (xwaitEffect u).trace = u.trace ++ [.wait (expose u.cycle u.curNum u.curDen)] := rfl
  refine ⟨k + 1, xwaitEffect u, events, hk, hpicks.trans (performs_xwait.run hrun hphase hu.invariant.ready),
    hexposed.invariant hu.invariant, hu.frame.trans hexposed.engineKeeps, rfl, hu.stopReq, hnext, ?_⟩
  rw [hlast, htrace, hcycle, hu.num, hu.den, expose]

/-! ### GSON and GSOFF -/

/-- What GSON and GSOFF leave when they are not refused (R213, R214). -/
def State.toggled (s : State) (on : Bool) : State := { s with gs := on }.respond .ok 0#32

theorem exec_toggle (hcap : s.capErr = false) (on : Bool) :
    exec (if on then .gson else .gsoff) s = .next (s.toggled on) := by
  cases on <;> exact capGuard_of_capable s _ hcap

theorem Invariant.toggled (hs : Invariant s) (on : Bool) : Invariant (s.toggled on) := (hs.withGs on).respond _ _

theorem Invariant.capErr_of_run (hs : Invariant s) (hrun : s.run = true) : s.capErr = false :=
  Bool.eq_false_iff.2 fun hcap => by simp [(hs.noEngine hcap).1] at hrun

/-! ### The default plans -/

/-- What FETCH latches of the default plans from `STEP = ix`: `STEP` clipped, the source's code and the fraction (R161,
R167, R168). -/
def defaultEntry (on : Bool) (ix : Nat) : Nat × BitVec 2 × BitVec 7 × BitVec 7 :=
  if on then
    match ix with
    | 0 => (0, 0#2, 1#7, 2#7)
    | 1 => (1, 1#2, 1#7, 4#7)
    | _ => (2, 2#2, 1#7, 4#7)
  else (0, 0#2, 1#7, 1#7)

theorem plan_defaultGs (hgs : s.cfg.planGs = Config.default.planGs) (hon : s.gs = true) :
    s.plan = [0x0082#16, 0x4084#16, 0x8084#16] :=
  (if_pos hon).trans hgs

theorem plan_defaultPlain (hplain : s.cfg.planPlain = Config.default.planPlain) (hoff : s.gs = false) :
    s.plan = [0x0081#16] :=
  (if_neg (by simp [hoff])).trans hplain

/-- The plain plan is one entry long, so `STEP` is clipped to it (R161, R168). -/
theorem planEntry_defaultPlain (hplain : s.cfg.planPlain = Config.default.planPlain) (hoff : s.gs = false) :
    s.planEntry = some (.a, 1#7, 1#7) ∧ s.clippedStep.toNat = 0 := by
  have hplan := plan_defaultPlain hplain hoff
  have hclipped : s.clippedStep.toNat = 0 := by
    rw [clippedStep_toNat, hplan, List.length_singleton]
    split <;> omega
  exact ⟨planEntry_of_word (w := 0x0081#16) (by rw [hplan, hclipped]; rfl) rfl, hclipped⟩

/-- The entry that FETCH finds in the default plans (R161, R167, R168). -/
theorem planEntry_defaults (hgs : s.cfg.planGs = Config.default.planGs)
    (hplain : s.cfg.planPlain = Config.default.planPlain) (hstep : s.stepIx ≠ 3#2) :
    ∃ src num den, s.planEntry = some (src, num, den) ∧
      (s.clippedStep.toNat, bufCode src, num, den) = defaultEntry s.gs s.stepIx.toNat := by
  cases hon : s.gs with
  | false =>
    obtain ⟨hentry, hclipped⟩ := planEntry_defaultPlain hplain hon
    exact ⟨.a, 1#7, 1#7, hentry, by rw [hclipped]; rfl⟩
  | true =>
    have hplan := plan_defaultGs hgs hon
    have hcodes : ∀ ix : BitVec 2, ix ≠ 3#2 → ix = 0#2 ∨ ix = 1#2 ∨ ix = 2#2 := by decide
    have hentry {w : BitVec 16} {src : Buf} {num den : BitVec 7} := planEntry_of_word (s := s) (w := w) (src := src)
      (num := num) (den := den)
    rw [clippedStep_toNat, hplan] at hentry
    rw [clippedStep_toNat, hplan]
    obtain h | h | h := hcodes s.stepIx hstep <;> rw [h] at hentry ⊢
    · exact ⟨.a, 1#7, 2#7, hentry (w := 0x0082#16) rfl rfl, rfl⟩
    · exact ⟨.b, 1#7, 4#7, hentry (w := 0x4084#16) rfl rfl, rfl⟩
    · exact ⟨.c, 1#7, 4#7, hentry (w := 0x8084#16) rfl rfl, rfl⟩

/-- The FETCH of an engine with the default plans and no stop pending (R161). -/
theorem Invariant.fetch_defaults (hs : Invariant s) (hgs : s.cfg.planGs = Config.default.planGs)
    (hplain : s.cfg.planPlain = Config.default.planPlain) (hphase : s.phase = phaseFetch) (hstop : s.stopReq = false) :
    ∃ w, exec .fetch s = .next w ∧ w.trace = s.trace ∧ w.phase = 2#3 ∧
      (w.stepIx.toNat, w.curSrc, w.curNum, w.curDen) = defaultEntry s.gs s.stepIx.toNat := by
  have hrun := hs.run_of_phase (by rw [hphase]; decide)
  obtain ⟨src, num, den, hentry, hlatched⟩ := planEntry_defaults hgs hplain hs.stepLegal
  exact ⟨_, execFetch_latches hrun hphase hs.reservedRegs hstop hentry, rfl, rfl, hlatched⟩

/-- The entry after a step of the default plans: one on in the grayscale plan, the only one of the plain plan (R163). -/
theorem defaultEntry_nextStepIx (hgs : s.cfg.planGs = Config.default.planGs) :
    defaultEntry s.gs s.nextStepIx.toNat = defaultEntry s.gs ((s.stepIx.toNat + 1) % 3) := by
  cases hon : s.gs with
  | false => rfl
  | true =>
    have hlt := Nat.mod_lt (s.stepIx.toNat + 1) (by decide : 3 > 0)
    rw [State.nextStepIx, plan_defaultGs hgs hon]
    exact congrArg (defaultEntry true) (Nat.mod_eq_of_lt (by simp only [List.length_cons, List.length_nil]; omega))

end Sys2Proof.Machine

open Sys2Proof Sys2Proof.Machine

/-- Settles O43: at most `N + 5` picks to the FETCH, one for the exit, and the rest used up by a stopped engine. -/
theorem pendingStopIsHonoured : Obligations.PendingStopIsHonoured := by
  intro s x y z rest hs hstop hbus hx hy hz
  obtain ⟨k, t, hk, hpicks, ht, htstop, hphase⟩ := hs.reaches_fetch hstop (busGives_callsLeft hbus hx hy hz s.phase)
  have hexit := hpicks.trans (ht.engineRun_exit htstop hphase)
  obtain ⟨left, hleft⟩ := Nat.exists_eq_add_of_le (show k + 1 ≤ s.cfg.frameBytes + 6 by omega)
  rw [hleft]
  exact ⟨_, (hexit.trans (.stopped rfl left)).runSteps_scheduling, rfl, rfl, rfl, (ht.stopPending htstop).2⟩

/-- Settles O47: the step in progress runs on with what its FETCH latched; the next FETCH reads the new `GS`. -/
theorem toggleTakesEffectAtTheNextStep : Obligations.ToggleTakesEffectAtTheNextStep := by
  intro s hs hgs hplain hstop
  refine ⟨fun hin rest on hbus => ?_, fun hphase on => ?_⟩
  · have hcap := hs.capErr_of_run (hs.run_of_insideStep hin)
    have hanswers : (s.toggled on).BusGives (· = .ok) (callsLeft s.phase) :=
      busGives_callsLeft (P := (· = .ok)) hbus rfl rfl rfl s.phase
    have hstart : StillInStep (s.toggled on) (s.toggled on) :=
      ⟨hs.toggled on, hin, hanswers, .of_silent rfl rfl, rfl, rfl, rfl, rfl⟩
    obtain ⟨k, t, events, hk, hpicks, ht, hframe, hphase, htstop, hstepIx, htrace⟩ := hstart.reaches_fetch
    have hcfg : t.cfg = s.cfg := hframe.cfg
    have hon : t.gs = on := (congrArg State.gs hframe.outside :)
    obtain ⟨w, hfetch, hwtrace, hw, hentry⟩ :=
      ht.fetch_defaults (hcfg ▸ hgs) (hcfg ▸ hplain) hphase (htstop.trans hstop)
    have hnext := defaultEntry_nextStepIx (s := s.toggled on) hgs
    rw [hon, hstepIx] at hentry
    exact ⟨s.toggled on, t, w, k, events, exec_toggle hcap on, rfl, hk, hpicks.runSteps_scheduling, hphase, htrace,
      hfetch, hwtrace, hw, hentry.trans hnext⟩
  · have hcap := hs.capErr_of_run (hs.run_of_phase (by rw [hphase]; decide))
    obtain ⟨w, hfetch, htrace, hw, hentry⟩ := (hs.toggled on).fetch_defaults hgs hplain hphase hstop
    exact ⟨s.toggled on, w, exec_toggle hcap on, rfl, hfetch, htrace, hw, hentry⟩

end

section
/-!
SUPPORT. O18: the store's content is in view of the engine's frame, and of the host's commands only COMMIT sets it.
-/

namespace Sys2Proof.Machine

variable {s t : State}

/-- The content of the store: `NV_VALID` and `NV_CYCLE` (R35). -/
def State.storeContent (s : State) : Bool × Word := (s.nvValid, s.nvCycle)

theorem storeContent_eq_iff : t.storeContent = s.storeContent ↔ t.nvValid = s.nvValid ∧ t.nvCycle = s.nvCycle :=
  Prod.mk_inj

theorem PortStep.storeContent {b i : Nat} {more : Hop} (h : PortStep s b i more t) :
    t.storeContent = s.storeContent := by
  cases h <;> rfl

theorem CommandEffect.storeContent {i : Instr} (h : CommandEffect s i t) (hi : i ≠ .commit) :
    t.storeContent = s.storeContent := by
  cases h with
  | commit => exact absurd rfl hi
  | fill layer bit _ hstep => exact hstep.storeContent
  | derive _ hstep => exact hstep.storeContent
  | _ => rfl

theorem HostStep.storeContent (h : HostStep s t) (hcommit : ∀ u, nextMove s ≠ .run .commit u) :
    t.storeContent = s.storeContent := by
  cases h with
  | command i rest _ hmove heffect => exact heffect.storeContent fun hi => hcommit _ (hi ▸ hmove)
  | fill layer v i _ hstep => exact hstep.storeContent
  | derive i _ hstep => exact hstep.storeContent
  | _ => rfl

theorem EngineKeeps.storeContent (h : EngineKeeps s t) : t.storeContent = s.storeContent :=
  (congrArg State.storeContent h.outside :)

theorem dropHungCall_storeContent (s : State) : s.dropHungCall.storeContent = s.storeContent := by
  unfold State.dropHungCall
  split <;> rfl

/-- The reset reads the store and writes nothing to it (R271). -/
theorem resetSequence_storeContent (parCap : Bool) (s : State) :
    (resetSequence parCap s).storeContent = s.storeContent := dropHungCall_storeContent s

end Sys2Proof.Machine

open Sys2Proof.Machine

/-- Settles O18: by the agent that moves; each keeps the store but the host that runs COMMIT. -/
theorem onlyCommitWritesTheStore : Obligations.OnlyCommitWritesTheStore := by
  intro s t hstep hchanged
  rw [← storeContent_eq_iff] at hchanged
  by_contra hcommit
  refine hchanged ?_
  obtain ⟨_, hhost⟩ | ⟨hpick, _⟩ | ⟨c, _, rfl⟩ := step_next hstep
  · exact hhost.storeContent (not_exists.1 hcommit)
  · exact (step_engineKeeps hpick hstep).storeContent
  · exact resetSequence_storeContent c s.takePick

end

section
/-!
SUPPORT. O12 to O14: GETCYC, and the adjustments ADJC and ADJF as one saturated sum.
-/

namespace Sys2Proof.Machine

variable {s : State}

theorem exec_getcyc (hcap : s.capErr = false) : exec .getcyc s = .next (s.respond .ok s.cycle) :=
  capGuard_of_capable s _ hcap

theorem exec_adjc (delta : BitVec 16) (hcap : s.capErr = false) :
    exec (.adjc delta) s = .next (s.setCycle (adjustCycle s.cfg s.cycle delta s.cfg.coarseStep)) :=
  capGuard_of_capable s _ hcap

theorem exec_adjf (delta : BitVec 16) (hcap : s.capErr = false) :
    exec (.adjf delta) s = .next (s.setCycle (adjustCycle s.cfg s.cycle delta s.cfg.fineStep)) :=
  capGuard_of_capable s _ hcap

/-! ### The saturated sum -/

theorem clamp_eq_max_min {lo hi : Int} (v : Int) (h : lo ≤ hi) : clamp v lo hi = max lo (min hi v) := by
  unfold clamp
  split
  · omega
  · split <;> omega

/-- The 32 bits of `CYCLE` hold the saturated sum whole, so nothing wraps around (R10, R193). -/
theorem adjustCycle_toNat {c : Config} (cycle : Word) (delta : BitVec 16) (size : Nat) (hle : c.cycleMin ≤ c.cycleMax)
    (hmax : c.cycleMax < 2 ^ 32) :
    ((adjustCycle c cycle delta size).toNat : Int) =
      max (c.cycleMin : Int) (min (c.cycleMax : Int) (cycle.toNat + delta.toInt * size)) := by
  rw [adjustCycle, clamp_eq_max_min _ (by omega), BitVec.toNat_ofNat, Nat.mod_eq_of_lt (by omega)]
  omega

/-- Saturation moves a value in its bounds the way of the move asked, unless it stands at that bound already. -/
theorem saturated_moves {lo hi old move new : Int} (hlow : lo ≤ old) (hhigh : old ≤ hi)
    (hnew : new = max lo (min hi (old + move))) :
    (0 < move → old < new ∨ old = hi ∧ new = old) ∧ (move < 0 → new < old ∨ old = lo ∧ new = old) ∧
      (move = 0 → new = old) := by
  refine ⟨fun hup => ?_, fun hdown => ?_, fun hstay => ?_⟩ <;> omega

/-- An adjustment of a `CYCLE` in its bounds, in the three directions (R193). -/
theorem adjustCycle_moves {c : Config} {cycle new : Word} {delta : BitVec 16} {size : Nat} (h : c.WellFormed)
    (hcycle : CycleInBounds c cycle) (hsize : 0 < size) (hnew : new = adjustCycle c cycle delta size) :
    (0 < delta.toInt → cycle.toNat < new.toNat ∨ cycle.toNat = c.cycleMax ∧ new = cycle) ∧
      (delta.toInt < 0 → new.toNat < cycle.toNat ∨ cycle.toNat = c.cycleMin ∧ new = cycle) ∧
      (delta.toInt = 0 → new = cycle) := by
  obtain ⟨_, hmin, hdefault, hmax⟩ := h.cycleBounds
  obtain ⟨hlow, hhigh⟩ := hcycle
  have hpos : 0 < (size : Int) := by omega
  have hsame (he : (new.toNat : Int) = cycle.toNat) : new = cycle := BitVec.eq_of_toNat_eq (Int.ofNat.inj he)
  obtain ⟨hup, hdown, hstay⟩ := saturated_moves (by omega) (by omega)
    (hnew ▸ adjustCycle_toNat cycle delta size (hmin.trans hdefault) hmax)
  refine ⟨fun hd => ?_, fun hd => ?_, fun hd => hsame (hstay (by rw [hd, Int.zero_mul]))⟩
  · exact (hup (Int.mul_pos hd hpos)).imp Int.ofNat_lt.1 fun ⟨hbound, he⟩ => ⟨Int.ofNat.inj hbound, hsame he⟩
  · exact (hdown (Int.mul_neg_of_neg_of_pos hd hpos)).imp Int.ofNat_lt.1
      fun ⟨hbound, he⟩ => ⟨Int.ofNat.inj hbound, hsame he⟩

end Sys2Proof.Machine

open Sys2Proof Sys2Proof.Machine

/-- Settles O12: CSR 1 is `CYCLE`. -/
theorem getcycAnswersTheCycle : Obligations.GetcycAnswersTheCycle :=
  ⟨rfl, fun _ hcap => ⟨exec_getcyc hcap, (exec_getcyc hcap).symm⟩⟩

/-- Settles O13: both adjustments are the saturated sum, each with its own step size. -/
theorem adjustmentsClampTheExactSum : Obligations.AdjustmentsClampTheExactSum := fun s delta hcap hle hmax =>
  ⟨⟨_, exec_adjc delta hcap, adjustCycle_toNat s.cycle delta s.cfg.coarseStep hle hmax⟩,
    ⟨_, exec_adjf delta hcap, adjustCycle_toNat s.cycle delta s.cfg.fineStep hle hmax⟩⟩

/-- Settles O14: the direction is that of `delta`, since a step size is positive; the example is four adjustments. -/
theorem adjustmentsAreMonotone : Obligations.AdjustmentsAreMonotone := by
  refine ⟨fun s t delta size i hconfig hcap hlow hhigh hi hexec => ?_, fun s hconfig hcap hcycle => ?_⟩
  · have hadjust : 0 < size ∧ exec i s = .next (s.setCycle (adjustCycle s.cfg s.cycle delta size)) := by
      obtain ⟨rfl, rfl⟩ | ⟨rfl, rfl⟩ := hi
      · exact ⟨hconfig.steps.1, exec_adjc delta hcap⟩
      · exact ⟨hconfig.steps.2, exec_adjf delta hcap⟩
    obtain ⟨hsize, hnext⟩ := hadjust
    cases hnext.symm.trans hexec
    obtain ⟨hpos, hmin, hdefault, hmax⟩ := hconfig.cycleBounds
    have hsum := adjustCycle_toNat s.cycle delta size (hmin.trans hdefault) hmax
    obtain ⟨hup, hdown, hstay⟩ := adjustCycle_moves hconfig ⟨hlow, hhigh⟩ hsize rfl
    obtain ⟨hbound, _⟩ := adjustCycle_inBounds hconfig s.cycle delta size
    simp only [State.setCycle_cycle]
    exact ⟨hup, hdown, hstay, hpos.trans hbound, hsum, fun hge hle => by rw [hsum, min_eq_right hle, max_eq_right hge]⟩
  · refine ⟨_, _, _, _, exec_adjc 1#16 hcap, exec_adjc 1#16 hcap, exec_adjc 1#16 hcap, exec_adjf (-1) hcap, ?_⟩
    simp only [State.setCycle_cycle, State.setCycle_cfg, hconfig, hcycle]
    decide

end

section
/-!
SUPPORT. O15 to O17: COMMIT, RELOAD and the load of the cycle time. The load depends on the draw, the configuration and
the store's content, which a reset keeps.
-/

namespace Sys2Proof.Machine

variable {s t : State}

/-! ### The load -/

theorem storedCycleUsable_iff : s.storedCycleUsable = true ↔ s.nvValid = true ∧ CycleInBounds s.cfg s.nvCycle := by
  simp only [State.storedCycleUsable, CycleInBounds, Bool.and_eq_true, decide_eq_true_eq, and_assoc]

theorem loadCycle_of_usable (hread : s.nextNvRead = .ok) (husable : s.storedCycleUsable = true) :
    s.loadCycle = s.nvCycle := by
  simp only [State.loadCycle, hread, husable, if_true]

theorem loadCycle_of_unusable (h : s.nextNvRead = .fail ∨ s.storedCycleUsable = false) :
    s.loadCycle = BitVec.ofNat 32 s.cfg.defaultCycle := by
  obtain ⟨hread, husable, _⟩ | he := loadCycle_cases s
  · obtain hfail | hunusable := h
    · exact absurd (hread.symm.trans hfail) nofun
    · exact absurd (husable.symm.trans hunusable) nofun
  · exact he

/-- A value in the bounds that the store holds is what a successful read loads (R195, R196). -/
theorem loadCycle_of_storeContent {v : Word} (hread : s.nextNvRead = .ok) (hstore : s.storeContent = (true, v))
    (hv : CycleInBounds s.cfg v) : s.loadCycle = v := by
  obtain ⟨hvalid, rfl⟩ := Prod.mk.inj hstore
  exact loadCycle_of_usable hread (storedCycleUsable_iff.2 ⟨hvalid, hv⟩)

/-! ### The commands -/

theorem exec_commit_refused (hcap : s.capErr = false) (hrun : s.run = true) :
    exec .commit s = .next (s.respond .precond 0#32) :=
  (capGuard_of_capable s _ hcap).trans (congrArg _ (if_pos hrun))

theorem exec_commit_stopped (hcap : s.capErr = false) (hrun : s.run = false) :
    exec .commit s = .next s.commitCycle :=
  (capGuard_of_capable s _ hcap).trans (congrArg _ (if_neg (by simp [hrun])))

theorem commitCycle_of_ok (hwrite : s.nextNvWrite = .ok) :
    s.commitCycle = (s.takeNvWrite.withNv true s.cycle).respond .ok s.cycle := by
  simp only [State.commitCycle, hwrite]

theorem commitCycle_of_fail {valid : Bool} {value : Word} (hwrite : s.nextNvWrite = .fail valid value) :
    s.commitCycle = (s.takeNvWrite.withNv valid value).respond .storage 0#32 := by
  simp only [State.commitCycle, hwrite, State.raise_eq]

theorem exec_reload_refused (hcap : s.capErr = false) (hrun : s.run = true) :
    exec .reload s = .next (s.respond .precond 0#32) :=
  (capGuard_of_capable s _ hcap).trans (congrArg _ (if_pos hrun))

/-- While STOPPED the value loaded becomes `CYCLE` and is answered (R195). -/
theorem exec_reload_stopped {v : Word} (hcap : s.capErr = false) (hrun : s.run = false) (hload : s.loadCycle = v) :
    exec .reload s = .next { s.takeNvRead with cycle := v, resp := s.resp ++ [⟨0#8, v⟩] } := by
  subst hload
  exact (capGuard_of_capable s _ hcap).trans (congrArg _ (if_neg (by simp [hrun])))

/-- A RELOAD that loads the `CYCLE` in use only answers it. -/
theorem exec_reload_same (hcap : s.capErr = false) (hrun : s.run = false) (hload : s.loadCycle = s.cycle) :
    exec .reload s = .next (s.takeNvRead.respond .ok s.cycle) :=
  exec_reload_stopped hcap hrun hload

/-! ### The reset -/

theorem resetSequence_cfg (parCap : Bool) (s : State) : (resetSequence parCap s).cfg = s.cfg := dropHungCall_cfg s

theorem takeBus_nextNvRead (s : State) : s.takeBus.nextNvRead = s.nextNvRead := by
  simp only [State.nextNvRead, State.takeBus, Env.takeBus]
  split <;> rfl

theorem dropHungCall_nextNvRead (s : State) : s.dropHungCall.nextNvRead = s.nextNvRead := by
  unfold State.dropHungCall
  split
  · exact takeBus_nextNvRead s
  · rfl

/-- The load depends on the draw, the configuration and the store alone (R196). -/
theorem loadCycle_congr (hread : t.nextNvRead = s.nextNvRead) (hcfg : t.cfg = s.cfg)
    (hstore : t.storeContent = s.storeContent) : t.loadCycle = s.loadCycle := by
  obtain ⟨hvalid, hvalue⟩ := storeContent_eq_iff.1 hstore
  have husable : t.storedCycleUsable = s.storedCycleUsable := by
    simp only [State.storedCycleUsable, hcfg, hvalid, hvalue]
  simp only [State.loadCycle, hread, husable, hcfg, hvalue]

/-- A reset loads what a RELOAD before it would have loaded (R195, R270). -/
theorem resetSequence_cycle (parCap : Bool) (s : State) : (resetSequence parCap s).cycle = s.loadCycle :=
  loadCycle_congr (dropHungCall_nextNvRead s) (dropHungCall_cfg s) (dropHungCall_storeContent s)

theorem resetSequence_cycle_of_storeContent {v : Word} (parCap : Bool) (hread : s.nextNvRead = .ok)
    (hstore : s.storeContent = (true, v)) (hv : CycleInBounds s.cfg v) : (resetSequence parCap s).cycle = v :=
  (resetSequence_cycle parCap s).trans (loadCycle_of_storeContent hread hstore hv)

/-- The store is as it was after a reset, so a RELOAD then finds the value that the reset loaded (R195). -/
theorem exec_reload_after_reset {v : Word} (hread : s.nextNvRead = .ok) (hstore : s.storeContent = (true, v))
    (hv : CycleInBounds s.cfg v) (hread' : (resetSequence true s).nextNvRead = .ok) :
    exec .reload (resetSequence true s) = .next ((resetSequence true s).takeNvRead.respond .ok v) := by
  have hcycle := resetSequence_cycle_of_storeContent true hread hstore hv
  have hload := loadCycle_of_storeContent hread' ((resetSequence_storeContent true s).trans hstore)
    ((resetSequence_cfg true s).symm ▸ hv)
  rw [exec_reload_same rfl rfl (hload.trans hcycle.symm), hcycle]

end Sys2Proof.Machine

open Sys2Proof.Machine

/-- Settles O15: the refusal, and the one write by its outcome. -/
theorem commitWritesTheStore : Obligations.CommitWritesTheStore := by
  refine ⟨rfl, fun s hcap => ⟨exec_commit_refused hcap, fun hrun hwrite => ?_, fun hrun valid value hwrite => ?_⟩⟩
  · rw [exec_commit_stopped hcap hrun, commitCycle_of_ok hwrite]
    rfl
  · rw [exec_commit_stopped hcap hrun, commitCycle_of_fail hwrite]
    rfl

/-- Settles O16: the refusal, and the one read; its unusable cases are the complement of the usable one. -/
theorem reloadLoadsTheCycle : Obligations.ReloadLoadsTheCycle := by
  refine ⟨rfl, fun s hcap => ⟨exec_reload_refused hcap, fun hrun hread hvalid hlow hhigh => ?_, fun hrun hbad => ?_⟩⟩
  · exact exec_reload_stopped hcap hrun (loadCycle_of_usable hread (storedCycleUsable_iff.2 ⟨hvalid, hlow, hhigh⟩))
  · refine exec_reload_stopped hcap hrun (loadCycle_of_unusable (hbad.imp_right fun hstored => ?_))
    rw [Bool.eq_false_iff, ne_eq, storedCycleUsable_iff]
    rintro ⟨hvalid, hlow, hhigh⟩
    obtain hinvalid | hbelow | habove := hstored
    · exact absurd (hvalid.symm.trans hinvalid) nofun
    · exact Nat.not_lt.2 hlow hbelow
    · exact Nat.not_lt.2 hhigh habove

/-- Settles O17: the store holds `CYCLE`, in its bounds by the invariant. -/
theorem committedCycleSurvivesReset : Obligations.CommittedCycleSurvivesReset := by
  rintro s t u strap hs hcap hrun hwrite hcommit hread rfl
  rw [exec_commit_stopped hcap hrun, commitCycle_of_ok hwrite] at hcommit
  cases hcommit
  refine ⟨resetSequence_cycle_of_storeContent strap hread rfl hs.cycle, fun hstrap hread' => ?_⟩
  subst hstrap
  exact exec_reload_after_reset hread rfl hs.cycle hread'

end

section
/-!
SUPPORT. O7 to O10: START, the two halves of STOP, and RDCSR, each by the lifecycle state; the refusal with CAPERR holds
of every command but RDCSR.
-/

namespace Sys2Proof.Machine

variable {s : State}

/-- With `CAPERR = 1` the prelude refuses every command but RDCSR, before any effect (R233, R239). -/
theorem exec_refused_of_capErr {i : Instr} (hi : hostCommand i = true) (hread : ∀ csr, i ≠ .rdcsr csr)
    (hcap : s.capErr = true) : exec i s = .next (s.respond .capErr 0#32) := by
  cases i with
  | rdcsr csr => exact absurd rfl (hread csr)
  | showEntry _ _ _ | fetch | park | pwait | load | unpark | xwait => cases hi
  | _ => exact capGuard_of_capErr s _ hcap

theorem exec_start_running (hcap : s.capErr = false) (hrun : s.run = true) :
    exec .start s = .next (s.respond .ok 0#32) :=
  (capGuard_of_capable s _ hcap).trans (by rw [if_pos hrun])

theorem exec_start_stopped (hcap : s.capErr = false) (hrun : s.run = false) :
    exec .start s = .next (s.launch.respond .ok 0#32) :=
  (capGuard_of_capable s _ hcap).trans (by rw [if_neg (by simp [hrun])])

theorem exec_stop_stopped (hcap : s.capErr = false) (hrun : s.run = false) :
    exec .stop s = .next (s.respond .ok 0#32) :=
  (capGuard_of_capable s _ hcap).trans (congrArg _ (if_neg (by simp [hrun])))

/-- The request half of STOP: no response yet (R211). -/
theorem exec_stop_running (hcap : s.capErr = false) (hrun : s.run = true) :
    exec .stop s = .next { s with stopReq := true, hop := .stopwait } :=
  (capGuard_of_capable s _ hcap).trans (congrArg _ (if_pos hrun))

theorem stopJoin_stopped (hrun : s.run = false) : stopJoin s = (s.withHop .none).respond .ok 0#32 :=
  if_neg (by simp [hrun])

theorem stopJoin_running (hrun : s.run = true) : stopJoin s = s := if_pos hrun

/-- RDCSR is exempt from the prelude (R215, R233). -/
theorem exec_rdcsr (csr : Csr) (s : State) : exec (.rdcsr csr) s = .next (s.respond .ok (s.csr csr)) := rfl

end Sys2Proof.Machine

open Sys2Proof.Machine

/-- Settles O7: the refusal, the no-op and the launch. -/
theorem startLaunchesTheEngine : Obligations.StartLaunchesTheEngine :=
  ⟨rfl, fun _ => ⟨exec_refused_of_capErr rfl nofun, exec_start_running, exec_start_stopped⟩⟩

/-- Settles O8: the request half by the lifecycle state, and the join half, which the held port continues with. -/
theorem stopRequestsAndJoinsTheExit : Obligations.StopRequestsAndJoinsTheExit := by
  refine ⟨rfl, fun s => ⟨exec_refused_of_capErr rfl nofun, exec_stop_stopped, exec_stop_running⟩,
    fun s hpick hhop => ?_⟩
  rw [step_host_stopwait hpick hhop]
  exact ⟨fun hrun => congrArg _ (stopJoin_stopped hrun), fun hrun => congrArg _ (stopJoin_running hrun)⟩

/-- Settles O9: both are the one toggle of `GS`. -/
theorem grayscaleToggles : Obligations.GrayscaleToggles :=
  ⟨rfl, rfl, fun _ hcap => ⟨exec_toggle hcap true, exec_toggle hcap false⟩⟩

/-- Settles O10: RDCSR answers `x[csr]`, taken at each of the three registers. -/
theorem rdcsrReadsEveryRegister : Obligations.RdcsrReadsEveryRegister := fun s =>
  ⟨exec_rdcsr .status s, exec_rdcsr .cycle s, exec_rdcsr .terrcnt s⟩

end

section
/-!
SUPPORT. O48 and O49: the picks of a stopped engine, and the causes of PRECOND. The six causes are an inductive
predicate with one constructor each; short of them every command answers another code or has not answered yet.
-/

namespace Sys2Proof.Machine

variable {s : State}

/-! ### A stopped engine -/

theorem engineMove_stopped (hrun : s.run = false) : engineMove s = .done (.next s) := if_neg (by simp [hrun])

theorem subframeMove_stopped (hrun : s.run = false) : subframeMove s = .done (.next s) := by
  obtain ⟨_, _, _, hrunning, _⟩ | hengine := subframeMove_cases s
  · exact absurd (hrunning.symm.trans hrun) nofun
  · rw [hengine, engineMove_stopped hrun]

/-- Neither kind of engine pick has a step while STOPPED (R43): the pick is used up. -/
theorem step_engine_stopped (hpick : enginePick s.nextPick = true) (hrun : s.run = false) :
    step s = .next s.takePick := by
  have hrun' : s.takePick.run = false := hrun
  refine step_of_done ?_
  obtain ⟨hp, _⟩ | ⟨_, hmove⟩ | ⟨_, hmove⟩ | ⟨_, hp, _⟩ := nextMove_cases s
  · simp [hp, enginePick] at hpick
  · rw [hmove, engineMove_stopped hrun']
  · rw [hmove, subframeMove_stopped hrun']
  · simp [hp, enginePick] at hpick

/-! ### The causes of PRECOND -/

/-- The causes of PRECOND, numbered (1) to (6) in R234. -/
inductive PrecondCause (s : State) : Instr → Prop
  | commit (hrun : s.run = true) : PrecondCause s .commit
  | reload (hrun : s.run = true) : PrecondCause s .reload
  | setpx (layer : Layer) {x y : BitVec 8} (bit : Bool) (hout : s.cfg.w ≤ x.toNat ∨ s.cfg.h ≤ y.toNat) :
    PrecondCause s (.setpx layer x y bit)
  | wrbyteCombined (index : BitVec 14) (value : Byte) : PrecondCause s (.wrbyte .c index value)
  | wrbyteIndex (buf : Buf) {index : BitVec 14} (value : Byte) (hout : s.cfg.frameBytes ≤ index.toNat) :
    PrecondCause s (.wrbyte buf index value)
  | rdbyteIndex (buf : Buf) {index : BitVec 14} (hout : s.cfg.frameBytes ≤ index.toNat) :
    PrecondCause s (.rdbyte buf index)

theorem PrecondCause.refused {i : Instr} (h : PrecondCause s i) (hcap : s.capErr = false) :
    exec i s = .next (s.respond .precond 0#32) := by
  cases h with
  | commit hrun => exact exec_commit_refused hcap hrun
  | reload hrun => exact exec_reload_refused hcap hrun
  | setpx layer bit hout => exact exec_setpx_refused bit hcap hout
  | wrbyteCombined index value => exact exec_wrbyte_refused value hcap (.inl rfl)
  | wrbyteIndex buf value hout => exact exec_wrbyte_refused value hcap (.inr hout)
  | rdbyteIndex buf hout => exact exec_rdbyte_refused hcap hout

/-- The code 3 is no other cause's (R104). -/
theorem eq_precond_of_causeNumber {c : Cause} (h : causeNumber c = causeNumber .precond) : c = .precond := by
  cases c with
  | precond => rfl
  | _ => exact absurd h (by decide)

/-- A state with the same responses and one more, of another cause, is not the refusal. -/
theorem respond_ne_precond {u : State} {c : Cause} {v : Word} (hresp : u.resp = s.resp) (hc : c ≠ .precond) :
    u.respond c v ≠ s.respond .precond 0#32 := fun h => by
  have hlast := congrArg State.resp h
  simp only [State.respond_resp, hresp, List.append_cancel_left_eq, List.cons.injEq, Response.mk.injEq] at hlast
  obtain ⟨⟨hcode, _⟩, _⟩ := hlast
  exact hc (eq_precond_of_causeNumber hcode)

theorem ne_respond_of_resp {u : State} (c : Cause) (v : Word) (hresp : u.resp = s.resp) : u ≠ s.respond c v :=
  fun h => by simpa [hresp] using congrArg State.resp h

theorem finishAt_ne_precond {u : State} (i : Nat) (more : Hop) (hresp : u.resp = s.resp) :
    u.finishAt i more ≠ s.respond .precond 0#32 := by
  obtain ⟨_, he⟩ | ⟨_, he⟩ := finishAt_cases u i more <;> rw [he]
  · exact ne_respond_of_resp _ _ hresp
  · exact respond_ne_precond hresp nofun

theorem commitCycle_ne_precond (s : State) : s.commitCycle ≠ s.respond .precond 0#32 := by
  cases hwrite : s.nextNvWrite with
  | ok => exact commitCycle_of_ok hwrite ▸ respond_ne_precond rfl nofun
  | fail valid value => exact commitCycle_of_fail hwrite ▸ respond_ne_precond rfl nofun

theorem exec_ne_precond {i : Instr} {t : State} (he : exec i s = .next t) (ht : t ≠ s.respond .precond 0#32) :
    exec i s ≠ .next (s.respond .precond 0#32) := fun h => by
  cases he.symm.trans h
  exact ht rfl

/-- A command that answers another code is not refused with PRECOND. -/
theorem exec_ne_precond_of_respond {i : Instr} {u : State} {c : Cause} {v : Word}
    (he : exec i s = .next (u.respond c v)) (hresp : u.resp = s.resp) (hc : c ≠ .precond) :
    exec i s ≠ .next (s.respond .precond 0#32) :=
  exec_ne_precond he (respond_ne_precond hresp hc)

/-- Short of the six causes no command answers PRECOND (R234). -/
theorem precondCause_of_refused {i : Instr} (hs : Invariant s) (hi : hostCommand i = true) (hcap : s.capErr = false)
    (h : exec i s = .next (s.respond .precond 0#32)) : PrecondCause s i := by
  have hpos := frameBytes_pos hs.config
  cases i with
  | start =>
    cases hrun : s.run with
    | true => exact absurd h (exec_ne_precond_of_respond (exec_start_running hcap hrun) rfl nofun)
    | false => exact absurd h (exec_ne_precond_of_respond (exec_start_stopped hcap hrun) rfl nofun)
  | stop =>
    cases hrun : s.run with
    | true => exact absurd h (exec_ne_precond (exec_stop_running hcap hrun) (ne_respond_of_resp _ _ rfl))
    | false => exact absurd h (exec_ne_precond_of_respond (exec_stop_stopped hcap hrun) rfl nofun)
  | gson => exact absurd h (exec_ne_precond_of_respond (exec_toggle hcap true) rfl nofun)
  | gsoff => exact absurd h (exec_ne_precond_of_respond (exec_toggle hcap false) rfl nofun)
  | rdcsr csr => exact absurd h (exec_ne_precond_of_respond (exec_rdcsr csr s) rfl nofun)
  | getcyc => exact absurd h (exec_ne_precond_of_respond (exec_getcyc hcap) rfl nofun)
  | adjc delta => exact absurd h (exec_ne_precond_of_respond (exec_adjc delta hcap) rfl nofun)
  | adjf delta => exact absurd h (exec_ne_precond_of_respond (exec_adjf delta hcap) rfl nofun)
  | commit =>
    cases hrun : s.run with
    | true => exact .commit hrun
    | false => exact absurd h (exec_ne_precond (exec_commit_stopped hcap hrun) (commitCycle_ne_precond s))
  | reload =>
    cases hrun : s.run with
    | true => exact .reload hrun
    | false => exact absurd h (exec_ne_precond_of_respond (u := s.reloadCycle) (c := .ok) (v := s.loadCycle)
        (exec_reload_stopped hcap hrun rfl) rfl nofun)
  | setpx layer x y bit =>
    by_cases hout : s.cfg.w ≤ x.toNat ∨ s.cfg.h ≤ y.toNat
    · exact .setpx layer bit hout
    · obtain ⟨hx, hy⟩ := not_or.1 hout
      exact absurd h (exec_ne_precond_of_respond
        (exec_setpx_sets layer bit hcap (Nat.not_le.1 hx) (Nat.not_le.1 hy) hs.config.height.1) rfl nofun)
  | fill layer bit =>
    exact absurd h (exec_ne_precond (exec_fill_accept layer bit hcap hpos) (finishAt_ne_precond _ _ rfl))
  | derive => exact absurd h (exec_ne_precond (exec_derive_accept hcap hpos) (finishAt_ne_precond _ _ rfl))
  | resolve bitA bitB => exact absurd h (exec_ne_precond_of_respond (exec_resolve bitA bitB hcap) rfl nofun)
  | wrbyte buf index value =>
    by_cases hbuf : buf = .c
    · exact hbuf ▸ .wrbyteCombined index value
    · by_cases hout : s.cfg.frameBytes ≤ index.toNat
      · exact .wrbyteIndex buf value hout
      · exact absurd h (exec_ne_precond_of_respond (exec_wrbyte_writes value hcap hbuf (Nat.not_le.1 hout)) rfl nofun)
  | rdbyte buf index =>
    by_cases hout : s.cfg.frameBytes ≤ index.toNat
    · exact .rdbyteIndex buf hout
    · exact absurd h (exec_ne_precond_of_respond (exec_rdbyte_reads hcap (Nat.not_le.1 hout)) rfl nofun)
  | showEntry _ _ _ | fetch | park | pwait | load | unpark | xwait => cases hi

end Sys2Proof.Machine

open Sys2Proof Sys2Proof.Machine

/-- Settles O48: the prelude refuses, and the invariant keeps the engine stopped. -/
theorem capErrRefusesAllButRdcsr : Obligations.CapErrRefusesAllButRdcsr := by
  refine ⟨fun i s => exec_refused_of_capErr, fun s hs hcap hpick => ?_⟩
  obtain ⟨hrun, _⟩ := hs.noEngine hcap
  exact step_engine_stopped hpick hrun

/-- Settles O49: each of the six causes refuses, and nothing else does. -/
theorem precondCauses : Obligations.PrecondCauses := by
  refine fun i s hs hi hcap => ⟨fun h => ?_, fun h => PrecondCause.refused ?_ hcap⟩
  · cases precondCause_of_refused hs hi hcap h with
    | commit hrun => exact .inl ⟨rfl, hrun⟩
    | reload hrun => exact .inr (.inl ⟨rfl, hrun⟩)
    | setpx layer bit hout => exact .inr (.inr (.inl ⟨layer, _, _, bit, rfl, hout⟩))
    | wrbyteCombined index value => exact .inr (.inr (.inr (.inl ⟨index, value, rfl⟩)))
    | wrbyteIndex buf value hout => exact .inr (.inr (.inr (.inr (.inl ⟨buf, _, value, rfl, hout⟩))))
    | rdbyteIndex buf hout => exact .inr (.inr (.inr (.inr (.inr ⟨buf, _, rfl, hout⟩))))
  · obtain ⟨rfl, hrun⟩ | ⟨rfl, hrun⟩ | ⟨layer, x, y, bit, rfl, hout⟩ | ⟨index, value, rfl⟩ |
      ⟨buf, index, value, rfl, hout⟩ | ⟨buf, index, rfl, hout⟩ := h
    · exact .commit hrun
    · exact .reload hrun
    · exact .setpx layer bit hout
    · exact .wrbyteCombined index value
    · exact .wrbyteIndex buf value hout
    · exact .rdbyteIndex buf hout

end

section
/-!
SUPPORT. O57: the pick that brings the reset draws nothing from the store, so the load of R196 is that of the state before
the step; a memory that lists no byte reads 0x00 at every address.
-/

namespace Sys2Proof.Machine

theorem takePick_nextNvRead (s : State) : s.takePick.nextNvRead = s.nextNvRead := by
  simp only [State.nextNvRead, State.takePick, Env.takePick]
  split <;> rfl

theorem takePick_loadCycle (s : State) : s.takePick.loadCycle = s.loadCycle :=
  loadCycle_congr (takePick_nextNvRead s) rfl rfl

/-- `LoadCycle()` as one choice (R196). -/
theorem loadCycle_eq_ite (s : State) :
    s.loadCycle = if s.nextNvRead = .ok ∧ s.nvValid = true ∧ s.cfg.cycleMin ≤ s.nvCycle.toNat ∧
      s.nvCycle.toNat ≤ s.cfg.cycleMax then s.nvCycle else BitVec.ofNat 32 s.cfg.defaultCycle := by
  split
  next h =>
    obtain ⟨hread, hstored⟩ := h
    exact loadCycle_of_usable hread (storedCycleUsable_iff.2 hstored)
  next hunusable =>
    obtain ⟨hread, husable, _⟩ | hdefault := loadCycle_cases s
    · exact absurd ⟨hread, storedCycleUsable_iff.1 husable⟩ hunusable
    · exact hdefault

/-- Every byte of the three buffers is 0x00 after a reset (R31, R32). -/
theorem resetSequence_memRead {s : State} {a : Nat} (parCap : Bool) (ha : a < 3 * s.cfg.frameBytes) :
    (resetSequence parCap s).memRead a = some 0x00#8 := by
  rw [State.memRead_eq_some, resetSequence_cfg]
  exact ⟨ha, rfl⟩

end Sys2Proof.Machine

open Sys2Proof.Machine

/-- Settles O57: the elements the sequence writes outright hold by its definition; the buffers, the store, the
configuration and the loaded `CYCLE` by their lemmas. -/
theorem resetSequenceValues : Obligations.ResetSequenceValues := by
  intro s strap hpick
  obtain ⟨hvalid, hvalue⟩ := storeContent_eq_iff.1 (resetSequence_storeContent strap s.takePick)
  have hcycle : (resetSequence strap s.takePick).cycle = s.loadCycle :=
    (resetSequence_cycle strap s.takePick).trans (takePick_loadCycle s)
  exact ⟨resetSequence strap s.takePick, step_reset hpick,
    rfl, rfl, rfl, rfl, rfl, rfl, rfl, rfl, rfl, rfl, rfl, rfl,
    fun a => resetSequence_memRead (s := s.takePick) strap, rfl, rfl, rfl, rfl,
    hvalid, hvalue, resetSequence_cfg strap s.takePick, hcycle.trans (loadCycle_eq_ite s)⟩

end
